-- ==== Sys2Proof/Word.lean ====
section
/-! DEFINITION. The word types of the smhash engine (00_scope.md R8, R11): every value is an unsigned bit
vector of a fixed width, and additions on it wrap (R10). -/

namespace Sys2Proof

/-- One byte of a message, a block or a digest (R11). -/
abbrev Byte := BitVec 8

/-- A 32-bit word: a host register, a nonce, a StandardDigest word (R7, R25). -/
abbrev Word32 := BitVec 32

/-- A 64-bit word of FastMixDigest (R7, R85). -/
abbrev Word64 := BitVec 64

/-- The 256-bit chaining state `eng.CV` (R19). -/
abbrev Chain := BitVec 256

end Sys2Proof
end

