-- ==== Sys2Proof/Machine/Bytes.lean ====
section
/-! DEFINITION. The primitives of 00_scope.md section 5: rotations (R9), byte sequences and their big-endian
and little-endian readings (R11), decimal text (R105), and the nibbles of a digest (R57). -/

namespace Sys2Proof.Machine

/-- `rotr_32(x, n)` for 0 < n < 32 (R9). -/
def rotr32 (x : Word32) (n : Nat) : Word32 := (x >>> n) ||| (x <<< (32 - n))

/-- `rotr_64(x, n)` for 0 < n < 64 (R9). -/
def rotr64 (x : Word64) (n : Nat) : Word64 := (x >>> n) ||| (x <<< (64 - n))

/-- `rotl_64(x, n)` for 0 < n < 64 (R9). -/
def rotl64 (x : Word64) (n : Nat) : Word64 := (x <<< n) ||| (x >>> (64 - n))

/-- `m[i]` (R11). Every use reads inside the sequence. -/
def byteAt (m : List Byte) (i : Nat) : Byte := m.getD i 0

/-- `zeros(n)` (R11). -/
def zeroBytes (n : Nat) : List Byte := List.replicate n 0

/-- `be32(m, i)` (R11): four bytes, the first most significant. -/
def be32 (m : List Byte) (i : Nat) : Word32 :=
  byteAt m i ++ byteAt m (i + 1) ++ byteAt m (i + 2) ++ byteAt m (i + 3)

/-- `be64(m, i)` (R11): eight bytes, the first most significant. -/
def be64 (m : List Byte) (i : Nat) : Word64 := be32 m i ++ be32 m (i + 4)

/-- `tobe32(w)` (R11). -/
def toBe32 (w : Word32) : List Byte :=
  [w.extractLsb' 24 8, w.extractLsb' 16 8, w.extractLsb' 8 8, w.extractLsb' 0 8]

/-- `tobe64(w)` (R11). -/
def toBe64 (w : Word64) : List Byte := toBe32 (w.extractLsb' 32 32) ++ toBe32 (w.extractLsb' 0 32)

/-- `le32(n)` (R11): the least significant byte first. -/
def le32Bytes (n : Word32) : List Byte :=
  [n.extractLsb' 0 8, n.extractLsb' 8 8, n.extractLsb' 16 8, n.extractLsb' 24 8]

/-- The ASCII byte of a decimal digit (R105): 0x30 to 0x39. -/
def digitByte (d : Nat) : Byte := BitVec.ofNat 8 (0x30 + d)

/-- The decimal numeral of `n` before the digits already written, most significant digit first. The first
argument bounds the number of digits. -/
def decimalDigits : Nat → Nat → List Byte → List Byte
  | 0, _, acc => acc
  | fuel + 1, n, acc =>
    if n < 10 then digitByte n :: acc else decimalDigits fuel (n / 10) (digitByte (n % 10) :: acc)

/-- `dec(n)` (R105): at most ten digits, with no sign and no leading zero. -/
def decimalText (n : Word32) : List Byte := decimalDigits 10 n.toNat []

/-- `nib(d, j)` (R57, R107): hex character 2i of a digest is `d[i][7:4]` and character 2i + 1 is `d[i][3:0]`. -/
def nibble (d : List Byte) (j : Nat) : BitVec 4 :=
  if j % 2 = 0 then (byteAt d (j / 2)).extractLsb' 4 4 else (byteAt d (j / 2)).extractLsb' 0 4

/-- The character of a nibble, from `0123456789abcdef` (R57). -/
def hexChar (x : BitVec 4) : Char :=
  ['0', '1', '2', '3', '4', '5', '6', '7', '8', '9', 'a', 'b', 'c', 'd', 'e', 'f'].getD x.toNat '0'

/-- The hex rendering of a byte string (R57): two characters a byte, high nibble first. The engine produces
bytes; the host renders them. -/
def hexText (d : List Byte) : List Char := (List.range (2 * d.length)).map fun j => hexChar (nibble d j)

end Sys2Proof.Machine
end

