-- ==== Sys2Proof/Syntax.lean ====
section
/-! DEFINITION. The commands of the engine as syntax (30_encoding.md R63 to R71): one constructor per row of
spec/opcode_table.json. A field that the spec lets hold an illegal value (M of INIT, N of UPDN) stays the raw
bit field; `Instr.wellFormed` says which values are legal. -/

namespace Sys2Proof

/-- The digest variant (R2, R18): `V = 0` and `V = 1` of INIT, `eng.VARIANT`. -/
inductive Variant where
  /-- V = 0: the 64-round digest over eight 32-bit words. -/
  | standardDigest
  /-- V = 1: the ARX digest over four 64-bit words. -/
  | fastMixDigest
deriving DecidableEq, Repr

/-- The round-count mode `eng.MODE` (R18, R86). The value 3 is never held. -/
inductive Mode where
  /-- M = 0. -/
  | fast
  /-- M = 1. -/
  | standard
  /-- M = 2. -/
  | secure
deriving DecidableEq, Repr

/-- The suffix form of SEARCH and VERIFY (R69, R70, R105): the field SFX. -/
inductive Suffix where
  /-- SFX = 0: decimal text. -/
  | dec
  /-- SFX = 1: four bytes, little-endian. Legal only under FastMixDigest. -/
  | le32
deriving DecidableEq, Repr

/-- The seven commands (R64). -/
inductive Instr where
  /-- INIT, format FI (R65): M is bits 2:1, V is bit 0. -/
  | init (mode : BitVec 2) (variant : Variant)
  /-- RESET, format F0 (R66). -/
  | reset
  /-- UPD1, format FB (R67): B is bits 7:0. -/
  | upd1 (byte : Byte)
  /-- UPDN, format FN (R68): N is bits 2:0. -/
  | updn (count : BitVec 3)
  /-- DIGEST, format F0 (R66). -/
  | digest
  /-- SEARCH, format FS (R69): K is bits 6:0, SFX is bit 8. -/
  | search (zeros : BitVec 7) (suffix : Suffix)
  /-- VERIFY, format FV (R70): SFX is bit 8. -/
  | verify (suffix : Suffix)
deriving DecidableEq, Repr

end Sys2Proof
end

