-- ==== Sys2Proof/Machine/FastMixDigest.lean ====
section
/-! DEFINITION. FastMixDigest (41_fastmix_digest.md): round count (R86), ingestion (R87), mix (R88), round
(R89), compression (R90) and finalization (R91). -/

namespace Sys2Proof.Machine

/-- Four 64-bit words `S[0..3]` (R19). -/
structure SWords where
  s0 : Word64
  s1 : Word64
  s2 : Word64
  s3 : Word64
deriving DecidableEq, Repr

/-- The FastMixDigest view of `eng.CV` (R19): `CV = S[0] || S[1] || S[2] || S[3]`. -/
def sOfChain (cv : Chain) : SWords where
  s0 := cv.extractLsb' 192 64
  s1 := cv.extractLsb' 128 64
  s2 := cv.extractLsb' 64 64
  s3 := cv.extractLsb' 0 64

/-- The chaining state that holds the words `S[0..3]` (R19). -/
def chainOfS (w : SWords) : Chain := w.s0 ++ w.s1 ++ w.s2 ++ w.s3

/-- `R(MODE)` (R86, D8). -/
def roundCount : Mode → Nat
  | .fast => 2
  | .standard => 3
  | .secure => 4

/-- Ingestion of a block (R87). -/
def ingest (s : SWords) (blk : List Byte) : SWords where
  s0 := s.s0 ^^^ be64 blk 0 ^^^ be64 blk 32
  s1 := s.s1 ^^^ be64 blk 8 ^^^ be64 blk 40
  s2 := s.s2 ^^^ be64 blk 16 ^^^ be64 blk 48
  s3 := s.s3 ^^^ be64 blk 24 ^^^ be64 blk 56

/-- `mix(x, y)` (R88): each line reads what the lines before it wrote. -/
def mix (x y : Word64) : Word64 × Word64 :=
  let x := rotr64 x 13 ^^^ y
  let y := rotl64 y 17 ^^^ x
  let x := rotr64 x 21 ^^^ y
  let y := rotl64 y 29 ^^^ x
  (x, y)

/-- `(S[0], S[1]) <- mix(S[0], S[1])` (R89). -/
def mix01 (s : SWords) : SWords := { s with s0 := (mix s.s0 s.s1).1, s1 := (mix s.s0 s.s1).2 }

/-- `(S[2], S[3]) <- mix(S[2], S[3])` (R89). -/
def mix23 (s : SWords) : SWords := { s with s2 := (mix s.s2 s.s3).1, s3 := (mix s.s2 s.s3).2 }

/-- `(S[0], S[2]) <- mix(S[0], S[2])` (R89, R91). -/
def mix02 (s : SWords) : SWords := { s with s0 := (mix s.s0 s.s2).1, s2 := (mix s.s0 s.s2).2 }

/-- `(S[1], S[3]) <- mix(S[1], S[3])` (R89, R91). -/
def mix13 (s : SWords) : SWords := { s with s1 := (mix s.s1 s.s3).1, s3 := (mix s.s1 s.s3).2 }

/-- One round on S (R89). -/
def roundFm (s : SWords) : SWords := mix13 (mix02 (mix23 (mix01 s)))

/-- The given number of rounds, in order. -/
def roundsFm : Nat → SWords → SWords
  | 0, s => s
  | n + 1, s => roundsFm n (roundFm s)

/-- `compress_FM(S, blk, R)` (R90). -/
def compressFm (rounds : Nat) (s : SWords) (blk : List Byte) : SWords := roundsFm rounds (ingest s blk)

/-- The 32 digest bytes of the words `S[0..3]` (R49, R91). -/
def bytesOfS (s : SWords) : List Byte := toBe64 s.s0 ++ toBe64 s.s1 ++ toBe64 s.s2 ++ toBe64 s.s3

/-- `finalize_FM(S, BUF, R)` (R91): the final pass runs on an empty buffer too, and the two cross passes write
back. -/
def finalizeFm (rounds : Nat) (s : SWords) (buf : List Byte) : List Byte :=
  bytesOfS (mix13 (mix02 (compressFm rounds s (buf ++ zeroBytes (64 - buf.length)))))

end Sys2Proof.Machine
end

