-- ==== Sys2Proof/WellFormed.lean ====
section
/-! DEFINITION. The operand checks of 30_encoding.md R72 that depend on the command alone, and the one that
also depends on the variant of the stream. -/

namespace Sys2Proof

/-- The operand fields hold legal values (R72): `M ≠ 3` of INIT, `1 ≤ N ≤ 4` of UPDN. -/
def Instr.wellFormed : Instr → Bool
  | .init mode _ => mode != 3#2
  | .reset => true
  | .upd1 _ => true
  | .updn count => decide (1 ≤ count.toNat) && decide (count.toNat ≤ 4)
  | .digest => true
  | .search _ _ => true
  | .verify _ => true

/-- SFX = 1 is legal only while `eng.VARIANT = 1` (R69, R70, R72). -/
def Suffix.allowedUnder : Suffix → Variant → Bool
  | .dec, _ => true
  | .le32, .standardDigest => false
  | .le32, .fastMixDigest => true

/-- The variant check of R72: it concerns SEARCH and VERIFY alone. -/
def Instr.allowedUnder (v : Variant) : Instr → Bool
  | .init _ _ => true
  | .reset => true
  | .upd1 _ => true
  | .updn _ => true
  | .digest => true
  | .search _ suffix => suffix.allowedUnder v
  | .verify suffix => suffix.allowedUnder v

end Sys2Proof
end

