-- ==== Sys2Proof/Decode.lean ====
section
/-! DEFINITION. The decoder and the encoder of command words (30_encoding.md sections 1 to 4), and `legal` of
R72. The block moves whole 32-bit words (R48, R63), so a command word has no byte order of its own. -/

namespace Sys2Proof

/-- Why a word is no command of the table (R72). -/
inductive DecodeError where
  /-- OPC is 0x00 or 0x08..0xFF (R64). -/
  | reservedOpcode
  /-- A bit that the opcode's format reserves is 1 (R65 to R70). -/
  | reservedBits
deriving DecidableEq, Repr

/-- The field OPC, bits 31:24 (R63). -/
def opcodeOf (w : Word32) : BitVec 8 := w.extractLsb' 24 8

/-- The variant that the bit V names (R65, D7). -/
def variantOfBit (b : Bool) : Variant := if b then .fastMixDigest else .standardDigest

/-- The suffix form that the bit SFX names (R69, R70). -/
def suffixOfBit (b : Bool) : Suffix := if b then .le32 else .dec

/-- `i` where the reserved bits of its format are 0, and the named rejection where they are not. -/
def checkReserved (clear : Bool) (i : Instr) : Except DecodeError Instr :=
  if clear then .ok i else .error .reservedBits

/-- The command that a word holds (R64 to R71). It reads the opcode, requires every reserved bit of the
opcode's format to be 0 and takes the operand fields as they stand; whether the fields hold legal values is
`Instr.wellFormed`, and `legalCommand` joins the two. -/
def decode (w : Word32) : Except DecodeError Instr :=
  if opcodeOf w = 0x01#8 then
    checkReserved (w.extractLsb' 3 21 == 0) (.init (w.extractLsb' 1 2) (variantOfBit (w.getLsbD 0)))
  else if opcodeOf w = 0x02#8 then
    checkReserved (w.extractLsb' 0 24 == 0) .reset
  else if opcodeOf w = 0x03#8 then
    checkReserved (w.extractLsb' 8 16 == 0) (.upd1 (w.extractLsb' 0 8))
  else if opcodeOf w = 0x04#8 then
    checkReserved (w.extractLsb' 3 21 == 0) (.updn (w.extractLsb' 0 3))
  else if opcodeOf w = 0x05#8 then
    checkReserved (w.extractLsb' 0 24 == 0) .digest
  else if opcodeOf w = 0x06#8 then
    checkReserved (w.extractLsb' 9 15 == 0 && !w.getLsbD 7)
      (.search (w.extractLsb' 0 7) (suffixOfBit (w.getLsbD 8)))
  else if opcodeOf w = 0x07#8 then
    checkReserved (w.extractLsb' 9 15 == 0 && w.extractLsb' 0 8 == 0)
      (.verify (suffixOfBit (w.getLsbD 8)))
  else
    .error .reservedOpcode

/-- The command of a word that is legal under the variant `v`, and nothing for an illegal word (R72). -/
def legalCommand (v : Variant) (w : Word32) : Option Instr :=
  match decode w with
  | .ok i => if i.wellFormed && i.allowedUnder v then some i else none
  | .error _ => none

/-- `legal(c)` of R72, with `v` the value of `eng.VARIANT`. -/
def legal (v : Variant) (w : Word32) : Bool := (legalCommand v w).isSome

/-- The bit V of a variant (R65). -/
def Variant.bit : Variant → BitVec 1
  | .standardDigest => 0#1
  | .fastMixDigest => 1#1

/-- The bit SFX of a suffix form (R69, R70). -/
def Suffix.bit : Suffix → BitVec 1
  | .dec => 0#1
  | .le32 => 1#1

/-- The word of a command, written from the formats of R65 to R70. -/
def encode : Instr → Word32
  | .init mode variant => 0x01#8 ++ 0#21 ++ mode ++ variant.bit
  | .reset => 0x02#8 ++ 0#24
  | .upd1 byte => 0x03#8 ++ 0#16 ++ byte
  | .updn count => 0x04#8 ++ 0#21 ++ count
  | .digest => 0x05#8 ++ 0#24
  | .search zeros suffix => 0x06#8 ++ 0#15 ++ suffix.bit ++ 0#1 ++ zeros
  | .verify suffix => 0x07#8 ++ 0#15 ++ suffix.bit ++ 0#8

/-- The instruction this decoder reads from a row's word, numbered as spec/opcode_table.json numbers it: one
word of 32 bits, and no command is longer (R63). -/
def decodeTableWord (nbits w : Nat) : Option Instr :=
  let bits := w % 2 ^ nbits
  if bits < 2 ^ 32 then
    match decode (BitVec.ofNat 32 bits) with
    | .ok i => some i
    | .error _ => none
  else none

end Sys2Proof
end

