-- ==== Sys2Proof/Config.lean ====
section
/-! DEFINITION. What the spec leaves open (00_scope.md R7): OPEN parameters of the block and the values a model
takes as draws. Each is an opaque constant: no proof can learn its value. -/

namespace Sys2Proof

/-- The OPEN parameter `FM_IV` (R85, D33): the four initial words of FastMixDigest. Log entry 1. -/
opaque Config.fmIV : Fin 4 → Word64

/-- The draws of the model (R13): the value of the n-th draw of the instance with the given index, under no law. A
read of a register that is any value while BUSY (R42), ELAPSED (R125) and the point at which a cancelled SEARCH
stops (R113) each take the next draw of their own instance, which `State.engineIndex` and `State.draws` name. No
two draws, of one instance or of two, are forced to agree. Log entry 2. -/
opaque Config.freeWord : Nat → Nat → Word32

/-- The OPEN parameter `BASE` (R47, R129): the bus address of the window of the n-th instance. Nothing
inside the block depends on it. Log entry 3. -/
opaque Config.base : Nat → Nat

/-- One less than the OPEN parameter `NUM_ENGINES` (R7: `NUM_ENGINES ≥ 1`). Log entry 3. -/
opaque Config.numEnginesPred : Nat

/-- The OPEN parameter `NUM_ENGINES ≥ 1` (R7, R129). -/
def Config.numEngines : Nat := Config.numEnginesPred + 1

/-- `LMAX = 2^61 − 1`, the greatest stream length in bytes (R7, R21, D11). -/
def Config.lmax : Nat := 2 ^ 61 - 1

end Sys2Proof
end

