-- ==== Sys2Proof/Machine/StandardDigest.lean ====
section
/-! DEFINITION. StandardDigest (40_standard_digest.md): constants (R76), padder (R77), message schedule (R78,
R79), round (R80, R81), compression (R82) and finalization (R83). -/

namespace Sys2Proof.Machine

/-- Eight 32-bit words `H[0..7]`, and the working registers a..h that are loaded from them (R19, R82). -/
structure HWords where
  a : Word32
  b : Word32
  c : Word32
  d : Word32
  e : Word32
  f : Word32
  g : Word32
  h : Word32
deriving DecidableEq, Repr

/-- The StandardDigest view of `eng.CV` (R19): `CV = H[0] || H[1] || … || H[7]`. -/
def hOfChain (cv : Chain) : HWords where
  a := cv.extractLsb' 224 32
  b := cv.extractLsb' 192 32
  c := cv.extractLsb' 160 32
  d := cv.extractLsb' 128 32
  e := cv.extractLsb' 96 32
  f := cv.extractLsb' 64 32
  g := cv.extractLsb' 32 32
  h := cv.extractLsb' 0 32

/-- The chaining state that holds the words `H[0..7]` (R19). -/
def chainOfH (w : HWords) : Chain := w.a ++ w.b ++ w.c ++ w.d ++ w.e ++ w.f ++ w.g ++ w.h

/-- `IV_STD[0..7]` (R76). -/
def ivStd : HWords where
  a := 0x6a09e667
  b := 0xbb67ae85
  c := 0x3c6ef372
  d := 0xa54ff53a
  e := 0x510e527f
  f := 0x9b05688c
  g := 0x1f83d9ab
  h := 0x5be0cd19

/-- `K[0..63]` (R76). -/
def roundConstants : List Word32 :=
  [0x428a2f98, 0x71374491, 0xb5c0fbcf, 0xe9b5dba5, 0x3956c25b, 0x59f111f1, 0x923f82a4, 0xab1c5ed5] ++
  [0xd807aa98, 0x12835b01, 0x243185be, 0x550c7dc3, 0x72be5d74, 0x80deb1fe, 0x9bdc06a7, 0xc19bf174] ++
  [0xe49b69c1, 0xefbe4786, 0x0fc19dc6, 0x240ca1cc, 0x2de92c6f, 0x4a7484aa, 0x5cb0a9dc, 0x76f988da] ++
  [0x983e5152, 0xa831c66d, 0xb00327c8, 0xbf597fc7, 0xc6e00bf3, 0xd5a79147, 0x06ca6351, 0x14292967] ++
  [0x27b70a85, 0x2e1b2138, 0x4d2c6dfc, 0x53380d13, 0x650a7354, 0x766a0abb, 0x81c2c92e, 0x92722c85] ++
  [0xa2bfe8a1, 0xa81a664b, 0xc24b8b70, 0xc76c51a3, 0xd192e819, 0xd6990624, 0xf40e3585, 0x106aa070] ++
  [0x19a4c116, 0x1e376c08, 0x2748774c, 0x34b0bcb5, 0x391c0cb3, 0x4ed8aa4a, 0x5b9cca4f, 0x682e6ff3] ++
  [0x748f82ee, 0x78a5636f, 0x84c87814, 0x8cc70208, 0x90befffa, 0xa4506ceb, 0xbef9a3f7, 0xc67178f2]

/-- The number of zero bytes of the padding, `z = (55 − L) mod 64` (R77). -/
def padZeros (len : Nat) : Nat := (119 - len % 64) % 64

/-- `pad_STD(L)` (R77). -/
def padStd (len : Nat) : List Byte :=
  0x80 :: (zeroBytes (padZeros len) ++ toBe64 (BitVec.ofNat 64 (8 * len)))

/-- `σ0` (R79). -/
def smallSigma0 (x : Word32) : Word32 := rotr32 x 7 ^^^ rotr32 x 18 ^^^ (x >>> 3)

/-- `σ1` (R79). -/
def smallSigma1 (x : Word32) : Word32 := rotr32 x 17 ^^^ rotr32 x 19 ^^^ (x >>> 10)

/-- `Σ0` (R80). -/
def bigSigma0 (a : Word32) : Word32 := rotr32 a 2 ^^^ rotr32 a 13 ^^^ rotr32 a 22

/-- `Σ1` (R80). -/
def bigSigma1 (e : Word32) : Word32 := rotr32 e 6 ^^^ rotr32 e 11 ^^^ rotr32 e 25

/-- `Ch` (R80). -/
def chooseWord (e f g : Word32) : Word32 := (e &&& f) ^^^ (~~~e &&& g)

/-- `Maj` (R80). -/
def majorityWord (a b c : Word32) : Word32 := (a &&& b) ^^^ (a &&& c) ^^^ (b &&& c)

/-- The schedule words so far, the newest first, extended by the given number of words (R78). -/
def extendSchedule : Nat → List Word32 → List Word32
  | 0, newestFirst => newestFirst
  | n + 1, newestFirst =>
    extendSchedule n
      ((newestFirst.getD 15 0 + smallSigma0 (newestFirst.getD 14 0) + newestFirst.getD 6 0
        + smallSigma1 (newestFirst.getD 1 0)) :: newestFirst)

/-- The 64 schedule words `w[0..63]` of a block (R78). -/
def scheduleStd (blk : List Byte) : List Word32 :=
  (extendSchedule 48 ((List.range 16).map fun i => be32 blk (4 * i)).reverse).reverse

/-- One round on the working registers, with `kw = (K[i], w[i])` (R81). -/
def roundStd (r : HWords) (kw : Word32 × Word32) : HWords :=
  let t1 := r.h + bigSigma1 r.e + chooseWord r.e r.f r.g + kw.1 + kw.2
  let t2 := bigSigma0 r.a + majorityWord r.a r.b r.c
  { a := t1 + t2, b := r.a, c := r.b, d := r.c, e := r.d + t1, f := r.e, g := r.f, h := r.g }

/-- `compress_STD(H, blk)` (R82). -/
def compressStd (w : HWords) (blk : List Byte) : HWords :=
  let r := (roundConstants.zip (scheduleStd blk)).foldl roundStd w
  { a := w.a + r.a, b := w.b + r.b, c := w.c + r.c, d := w.d + r.d,
    e := w.e + r.e, f := w.f + r.f, g := w.g + r.g, h := w.h + r.h }

/-- The first `n` blocks of 64 bytes of a byte sequence, in order. -/
def blocks64 : Nat → List Byte → List (List Byte)
  | 0, _ => []
  | n + 1, m => m.take 64 :: blocks64 n (m.drop 64)

/-- The 32 digest bytes of the words `H[0..7]` (R49, R83). -/
def bytesOfH (w : HWords) : List Byte :=
  toBe32 w.a ++ toBe32 w.b ++ toBe32 w.c ++ toBe32 w.d ++ toBe32 w.e ++ toBe32 w.f ++ toBe32 w.g ++ toBe32 w.h

/-- `finalize_STD(H, BUF, L)` (R83). -/
def finalizeStd (w : HWords) (buf : List Byte) (len : Nat) : List Byte :=
  let tail := buf ++ padStd len
  bytesOfH ((blocks64 (tail.length / 64) tail).foldl compressStd w)

end Sys2Proof.Machine
end

