-- ==== Sys2Proof/Machine/State.lean ====
section
/-! DEFINITION. The state of one instance (10_state.md), the reasons a step can stop, and the state after
reset (70_reset_and_hazards.md R132). The last five fields are no state of the block: the platform's input
`cancel_in`, and the MODEL's own index of the instance, value last read, counter of draws and schedule. -/

namespace Sys2Proof.Machine

/-- The outcome of the last SEARCH, `STATUS.RESULT` (R28, R111). -/
inductive SearchResult where
  /-- 0: no SEARCH has completed since RESULT was last cleared. -/
  | none
  /-- 1. -/
  | found
  /-- 2. -/
  | notFound
  /-- 3. -/
  | cancelled
deriving DecidableEq, Repr

/-- `STATUS.ERRCODE` (R117). Codes 4 to 15 are never produced. -/
inductive ErrCode where
  /-- 0: no error since ERR was last cleared. -/
  | none
  /-- 1: the word is not legal (R72). -/
  | illegalCmd
  /-- 2: a command was pending (R44). -/
  | busy
  /-- 3: the stream or the longest candidate would pass LMAX bytes (R101, R114). -/
  | lengthOverflow
deriving DecidableEq, Repr

/-- The accepted command that has not yet completed, with the copy of each operand latched at acceptance
(R24). -/
structure Pending where
  word : Word32
  dataIn : Word32
  nonceStart : Word32
  maxNonce : Word32
  nonceIn : Word32
  expect : Vector Word32 8
deriving DecidableEq, Repr

/-- The width of a host access (R48): only a 32-bit access is performed. -/
inductive AccessWidth where
  | byte
  | half
  | word
  | wide
deriving DecidableEq, Repr

/-- One step of an agent (R15). Offsets are byte offsets from the window's base (R47). -/
inductive Event where
  /-- The host reads. -/
  | hostRead (width : AccessWidth) (offset : Nat)
  /-- The host writes. -/
  | hostWrite (width : AccessWidth) (offset : Nat) (value : Word32)
  /-- The engine takes its completion step, if a command is pending (R45). -/
  | engine
  /-- The platform drives the reset input (R132, R133). -/
  | platformReset
  /-- The platform sets the level of the input `cancel_in` (R127). -/
  | platformCancelIn (level : Bool)
deriving DecidableEq, Repr

/-- The registers of the window (R25). CMD holds nothing between accesses. -/
inductive Reg where
  | id | ctrl | status | config | cmd | dataIn | nonceStart | maxNonce | nonceIn
  | resultNonce | attempts | elapsed | msgLenLo | msgLenHi
  /-- Offset 0x38 or 0x3C (R41). -/
  | reserved
  | digestOut (i : Fin 8)
  | expect (i : Fin 8)
deriving DecidableEq, Repr

/-- Everything the spec gives one instance, as plain data. -/
structure State where
  /-- `eng.VARIANT` (R18). -/
  variant : Variant
  /-- `eng.MODE` (R18). -/
  mode : Mode
  /-- `eng.CV` (R19). -/
  cv : Chain
  /-- `eng.BUF` (R20). -/
  buf : List Byte
  /-- `eng.L` (R21), stored in 61 bits. -/
  len : BitVec 61
  /-- `eng.PEND` with the latched operands (R24). -/
  pend : Option Pending
  /-- `eng.CANCEL_REQ` (R24, R113). -/
  cancelReq : Bool
  /-- `CTRL.IE_DONE` (R27). -/
  ieDone : Bool
  /-- `CTRL.IE_ERR` (R27). -/
  ieErr : Bool
  /-- `STATUS.DONE` (R28). -/
  done : Bool
  /-- `STATUS.ERR` (R28). -/
  err : Bool
  /-- `STATUS.MATCH` (R28). -/
  matched : Bool
  /-- `STATUS.RESULT` (R28). -/
  result : SearchResult
  /-- `STATUS.ERRCODE` (R28). -/
  errCode : ErrCode
  /-- DATA_IN (R31). -/
  dataIn : Word32
  /-- NONCE_START (R32). -/
  nonceStart : Word32
  /-- MAX_NONCE (R33). -/
  maxNonce : Word32
  /-- NONCE_IN (R34). -/
  nonceIn : Word32
  /-- RESULT_NONCE (R35). -/
  resultNonce : Word32
  /-- ATTEMPTS (R36). -/
  attempts : Word32
  /-- ELAPSED (R37). -/
  elapsed : Word32
  /-- DIGEST_OUT[0..7] (R39). -/
  digestOut : Vector Word32 8
  /-- EXPECT[0..7] (R40). -/
  expect : Vector Word32 8
  /-- The level of the platform's input `cancel_in` (R127). -/
  cancelIn : Bool
  /-- MODEL: which instance of the system this is (R129): the platform's numbering, which names the instance's window
  and its draws. No step changes it and the host cannot read it. Log entries 2 and 16. -/
  engineIndex : Nat
  /-- MODEL: the value the last host read returned. -/
  readData : Word32
  /-- MODEL: how many draws this instance has taken (R13). -/
  draws : Nat
  /-- MODEL: the steps the agents take next, in order; when it is empty the engine completes what is pending. -/
  schedule : List Event
deriving DecidableEq, Repr

/-- Why a step stops. Every reason is safe: the model stops, and proves nothing of what follows. -/
inductive Fault where
  /-- Raised by a host access that is not 32 bits wide. R48 refuses it with a bus error response, and a model
  treats that as a host-side fault. Safe. -/
  | busErrorWidth
  /-- Raised by a 32-bit host access at an offset that is no multiple of 4 (R48, R52). Safe. -/
  | busErrorMisaligned
  /-- Raised by an aligned 32-bit host access outside the 0x80 bytes of the window, which is no access to this
  block (R47, R55). Safe. -/
  | outsideWindow
  /-- Raised by the meaning of a command where no command is pending: the completion step is not enabled
  (R45). No step raises it. Safe. -/
  | completionNotEnabled
deriving DecidableEq, Repr

/-- Why a command has no meaning. -/
inductive Refusal where
  /-- Raised by an arm of `exec` without a meaning. No arm raises it. Safe. -/
  | notModelled (mnemonic : String)
deriving DecidableEq, Repr

/-- The machine right after hardware reset (R132). `cancelIn`, `engineIndex`, `readData`, `draws` and
`schedule` are no state of the block: the log entries 4 and 5 name their values. -/
def State.reset : State where
  variant := .standardDigest
  mode := .standard
  cv := chainOfH ivStd
  buf := []
  len := 0
  pend := none
  cancelReq := false
  ieDone := false
  ieErr := false
  done := false
  err := false
  matched := false
  result := .none
  errCode := .none
  dataIn := 0
  nonceStart := 0
  maxNonce := 0
  nonceIn := 0
  resultNonce := 0
  attempts := 0
  elapsed := 0
  digestOut := Vector.replicate 8 0
  expect := Vector.replicate 8 0
  cancelIn := false
  engineIndex := 0
  readData := 0
  draws := 0
  schedule := []

end Sys2Proof.Machine
end

