-- ==== Sys2Proof/Machine/Flags.lean ====
section
/-! DEFINITION. The status, control and configuration words (10_state.md R27 to R29), how a flag is set and
cleared (R28, R43, R118), and the two outputs (R123, R128). -/

namespace Sys2Proof.Machine

/-- `STATUS.BUSY = (eng.PEND ≠ none)` (R24, R28). -/
def State.busy (s : State) : Bool := s.pend.isSome

/-- The field RESULT of STATUS (R28). -/
def SearchResult.code : SearchResult → BitVec 2
  | .none => 0#2
  | .found => 1#2
  | .notFound => 2#2
  | .cancelled => 3#2

/-- The field ERRCODE of STATUS (R117). -/
def ErrCode.code : ErrCode → BitVec 4
  | .none => 0#4
  | .illegalCmd => 1#4
  | .busy => 2#4
  | .lengthOverflow => 3#4

/-- The field MODE of CONFIG (R29). -/
def modeCode : Mode → BitVec 2
  | .fast => 0#2
  | .standard => 1#2
  | .secure => 2#2

/-- The mode that the field M of INIT names; M = 3 names none (R65, R71). -/
def modeOfField (m : BitVec 2) : Option Mode :=
  if m = 0#2 then some .fast
  else if m = 1#2 then some .standard
  else if m = 2#2 then some .secure
  else none

/-- STATUS from the three bits BUSY, DONE and ERR and the fields MATCH, RESULT and ERRCODE (R28): bits 7:6 and
31:12 read 0. -/
def statusWord (busy done err matched : Bool) (result : BitVec 2) (errCode : BitVec 4) : Word32 :=
  0#20 ++ errCode ++ 0#2 ++ result ++ BitVec.ofBool matched ++ BitVec.ofBool err ++ BitVec.ofBool done
    ++ BitVec.ofBool busy

/-- STATUS with every field exact (R28). -/
def State.statusExact (s : State) : Word32 :=
  statusWord s.busy s.done s.err s.matched s.result.code s.errCode.code

/-- STATUS while BUSY (R42): MATCH and RESULT are those of the draw `d`, the rest is exact. -/
def State.statusDrawn (s : State) (d : Word32) : Word32 :=
  statusWord s.busy s.done s.err (d.getLsbD 3) (d.extractLsb' 4 2) s.errCode.code

/-- CTRL as it reads (R27): CANCEL and the reserved bits read 0. -/
def State.ctrlWord (s : State) : Word32 := 0#30 ++ BitVec.ofBool s.ieErr ++ BitVec.ofBool s.ieDone

/-- CONFIG (R29): VARIANT, MODE and BUFLEN. -/
def State.configWord (s : State) : Word32 :=
  0#18 ++ BitVec.ofNat 6 s.buf.length ++ 0#5 ++ modeCode s.mode ++ s.variant.bit

/-- A write of `v` to STATUS (R28, R122): bit 1 clears DONE, bit 2 clears ERR and ERRCODE. -/
def State.clearStatus (s : State) (v : Word32) : State :=
  { s with
    done := s.done && !v.getLsbD 1
    err := s.err && !v.getLsbD 2
    errCode := if v.getLsbD 2 then .none else s.errCode }

/-- The output `irq` (R123). -/
def State.irq (s : State) : Bool := (s.done && s.ieDone) || (s.err && s.ieErr)

/-- The output `found_out` (R128). -/
def State.foundOut (s : State) : Bool := decide (s.result = .found)

/-- The interrupt-enable bits of CTRL take the written bits 0 and 1 at once (R27). -/
def State.setEnables (s : State) (v : Word32) : State :=
  { s with ieDone := v.getLsbD 0, ieErr := v.getLsbD 1 }

end Sys2Proof.Machine
end

