-- ==== Sys2Proof/Machine/Operands.lean ====
section
/-! DEFINITION. The operand forms of the commands (30_encoding.md R71; 42_engine_commands.md R99, R100;
43_search_commands.md R105): the bytes of UPD1 and UPDN, the suffix of a nonce, the latched operands, and the
digest words. -/

namespace Sys2Proof.Machine

/-- The four bytes of DATA_IN in stream order: bits 31:24 first (R31, R50, R100). -/
def dataBytes (d : Word32) : List Byte := toBe32 d

/-- The bytes UPDN absorbs: the first N of the four (R100). -/
def updnBytes (d : Word32) (count : BitVec 3) : List Byte := (dataBytes d).take count.toNat

/-- `sfx(n)` (R105). -/
def suffixBytes : Suffix → Word32 → List Byte
  | .dec, n => decimalText n
  | .le32, n => le32Bytes n

/-- The longest suffix of a form, `maxsfx` (R114). -/
def maxSuffix : Suffix → Nat
  | .dec => 10
  | .le32 => 4

/-- The operands latched with a command word (R24, R44). -/
def State.latched (s : State) (word : Word32) : Pending where
  word := word
  dataIn := s.dataIn
  nonceStart := s.nonceStart
  maxNonce := s.maxNonce
  nonceIn := s.nonceIn
  expect := s.expect

/-- The words `be32(d, 4i)` of a digest, as DIGEST_OUT holds them (R39). -/
def digestWords (d : List Byte) : Vector Word32 8 :=
  #v[be32 d 0, be32 d 4, be32 d 8, be32 d 12, be32 d 16, be32 d 20, be32 d 24, be32 d 28]

end Sys2Proof.Machine
end

