-- ==== Sys2Proof/Machine/Ops.lean ====
section
/-! DEFINITION. The operations the steps share: absorbing (42_engine_commands.md R94) and finalizing (R95), the
register window (10_state.md R25 to R42), recording an error (60_exceptions.md R118), and the accept and
completion steps (10_state.md R44, R45). The block has no data memory (20_memory.md R47): the window's registers
are all an address reaches. -/

namespace Sys2Proof.Machine

/-! ### The digest of a stream -/

/-- `init_V` (R76, R85): the variant's initial chaining state. -/
def initChain : Variant → Chain
  | .standardDigest => chainOfH ivStd
  | .fastMixDigest =>
    chainOfS { s0 := Config.fmIV 0, s1 := Config.fmIV 1, s2 := Config.fmIV 2, s3 := Config.fmIV 3 }

/-- `compress_V(CV, blk)` for variant V and mode M (R82, R90, R94). -/
def compressChain : Variant → Mode → Chain → List Byte → Chain
  | .standardDigest, _, cv, blk => chainOfH (compressStd (hOfChain cv) blk)
  | .fastMixDigest, m, cv, blk => chainOfS (compressFm (roundCount m) (sOfChain cv) blk)

/-- One byte of `absorb_V` (R94): a full block is compressed and the buffer emptied. -/
def absorbByte (v : Variant) (m : Mode) (st : Chain × List Byte) (x : Byte) : Chain × List Byte :=
  let buf := st.2 ++ [x]
  if buf.length = 64 then (compressChain v m st.1 buf, []) else (st.1, buf)

/-- `absorb_V((CV, BUF), bytes)` (R94). -/
def absorb (v : Variant) (m : Mode) (st : Chain × List Byte) (bytes : List Byte) : Chain × List Byte :=
  bytes.foldl (absorbByte v m) st

/-- `finalize` on a copy of (CV, BUF, L) (R95). -/
def finalize : Variant → Mode → Chain × List Byte → Nat → List Byte
  | .standardDigest, _, st, len => finalizeStd (hOfChain st.1) st.2 len
  | .fastMixDigest, m, st, _ => finalizeFm (roundCount m) (sOfChain st.1) st.2

/-- `digest_V,M(m)` (R84, R92, R95): the digest of a whole message from a given initial chaining state. -/
def digestFrom (v : Variant) (m : Mode) (iv : Chain) (msg : List Byte) : List Byte :=
  finalize v m (absorb v m (iv, []) msg) msg.length

/-- The digest of the live stream (R95, R102). -/
def State.streamDigest (s : State) : List Byte := finalize s.variant s.mode (s.cv, s.buf) s.len.toNat

/-- `cand(n)` (R106): the digest of the stream with the nonce's suffix, from a fresh copy of the state. -/
def State.candidate (s : State) (suffix : Suffix) (n : Word32) : List Byte :=
  let bytes := suffixBytes suffix n
  finalize s.variant s.mode (absorb s.variant s.mode (s.cv, s.buf) bytes) (s.len.toNat + bytes.length)

/-- The stream grows by some bytes (R99, R100). -/
def State.absorbBytes (s : State) (bytes : List Byte) : State :=
  { s with
    cv := (absorb s.variant s.mode (s.cv, s.buf) bytes).1
    buf := (absorb s.variant s.mode (s.cv, s.buf) bytes).2
    len := s.len + BitVec.ofNat 61 bytes.length }

/-- The stream starts afresh at the variant's initial state (R97, R98). -/
def State.restartStream (s : State) : State := { s with cv := initChain s.variant, buf := [], len := 0 }

/-! ### Errors -/

/-- `raise Err(code)` (R118): the first code since ERR was last cleared is kept, and nothing else changes. This
is the block's whole exception entry (R121); its return is the write to STATUS, `State.clearStatus` (R122). -/
def State.raiseErr (s : State) (code : ErrCode) : State :=
  { s with err := true, errCode := if s.err then s.errCode else code }

/-! ### The accept step -/

/-- A length that the command would pass LMAX with (R101, R114): it is what the accept step compares. -/
def State.lengthAfter (s : State) : Instr → Nat
  | .init _ _ => 0
  | .reset => 0
  | .upd1 _ => s.len.toNat + 1
  | .updn count => s.len.toNat + count.toNat
  | .digest => 0
  | .search _ suffix => s.len.toNat + maxSuffix suffix
  | .verify suffix => s.len.toNat + maxSuffix suffix

/-- The accepted command clears RESULT and MATCH: SEARCH and VERIFY alone (R28, R44). -/
def clearsOutcome : Instr → Bool
  | .init _ _ => false
  | .reset => false
  | .upd1 _ => false
  | .updn _ => false
  | .digest => false
  | .search _ _ => true
  | .verify _ => true

/-- The command is accepted (R44): its operands are latched and `cancel_in` is sampled. -/
def State.latchCommand (s : State) (i : Instr) (word : Word32) : State :=
  { s with
    pend := some (s.latched word)
    cancelReq := s.cancelIn
    result := if clearsOutcome i then .none else s.result
    matched := if clearsOutcome i then false else s.matched }

/-- Why a command is refused where none is pending, in the order of R120: it is not legal (R72), or the stream or
the longest candidate would pass LMAX (R101, R114). -/
def State.refusal (s : State) (i : Instr) : Option ErrCode :=
  if !(i.wellFormed && i.allowedUnder s.variant) then some .illegalCmd
  else if s.lengthAfter i > Config.lmax then some .lengthOverflow
  else none

/-- The accept step: a host write of the word `c` to CMD (R30, R44), its checks in the order of R120. -/
def State.acceptCommand (s : State) (c : Word32) : State :=
  if s.busy then s.raiseErr .busy
  else
    match decode c with
    | .error _ => s.raiseErr .illegalCmd
    | .ok i =>
      match s.refusal i with
      | some code => s.raiseErr code
      | none => s.latchCommand i c

/-! ### The completion step -/

/-- The end of every completion (R45): DONE is set and nothing is pending. -/
def State.finish (s : State) : State := { s with done := true, pend := none }

/-- A pending command that the accept step would refuse, which no run reaches, is dropped with its error (log
entry 9). -/
def State.dropCommand (s : State) (code : ErrCode) : State := State.raiseErr { s with pend := none } code

/-- The completion step of the command `i` (R45): it is enabled when a command is pending, and the command's effect
works on the latched operands. The checks of the accept step hold of every command that it lets become pending;
where they do not, the command records the error that its rule names and has no other effect. -/
def State.complete (s : State) (i : Instr) (effect : Pending → State) : Host.Outcome State Fault Refusal :=
  match s.pend with
  | none => .fault .completionNotEnabled
  | some p =>
    match s.refusal i with
    | some code => .next (s.dropCommand code)
    | none => .next (effect p).finish

/-- A SEARCH is pending (R113). -/
def State.searchPending (s : State) : Bool :=
  match s.pend with
  | some p => opcodeOf p.word == 0x06#8
  | none => false

/-- The value of the instance's draw after the next `k` (R13). Instances draw apart from each other, because the
index of the instance is an argument of the draw (R129, log entry 2). -/
def State.drawAfter (s : State) (k : Nat) : Word32 := Config.freeWord s.engineIndex (s.draws + k)

/-- The value of the instance's next draw (R13). -/
def State.draw (s : State) : Word32 := s.drawAfter 0

/-! ### The register window -/

/-- The 32 registers of the window in the order of their offsets (R25, R41). -/
def windowRegs : List Reg :=
  [.id, .ctrl, .status, .config, .cmd, .dataIn, .nonceStart, .maxNonce] ++
  [.nonceIn, .resultNonce, .attempts, .elapsed, .msgLenLo, .msgLenHi, .reserved, .reserved] ++
  [.digestOut 0, .digestOut 1, .digestOut 2, .digestOut 3, .digestOut 4, .digestOut 5, .digestOut 6, .digestOut 7] ++
  [.expect 0, .expect 1, .expect 2, .expect 3, .expect 4, .expect 5, .expect 6, .expect 7]

/-- The register at a byte offset (R25, R48): nothing at an offset that is no multiple of 4 or lies outside the
0x80 bytes of the window. -/
def regAt (offset : Nat) : Option Reg :=
  if offset % 4 = 0 then windowRegs[offset / 4]? else none

/-- The bus address of an offset in the instance's window (R47, R129). -/
def State.busAddress (s : State) (offset : Nat) : Nat := Config.base s.engineIndex + offset

/-- The value a register holds (R26 to R41). -/
def State.regValue (s : State) : Reg → Word32
  | .id => 0x534D4801
  | .ctrl => s.ctrlWord
  | .status => s.statusExact
  | .config => s.configWord
  | .cmd => 0
  | .dataIn => s.dataIn
  | .nonceStart => s.nonceStart
  | .maxNonce => s.maxNonce
  | .nonceIn => s.nonceIn
  | .resultNonce => s.resultNonce
  | .attempts => s.attempts
  | .elapsed => s.elapsed
  | .msgLenLo => s.len.extractLsb' 0 32
  | .msgLenHi => 0#3 ++ s.len.extractLsb' 32 29
  | .reserved => 0
  | .digestOut i => s.digestOut[i]
  | .expect i => s.expect[i]

/-- A read of the register is any value, in whole or in part, while BUSY (R42). -/
def anyWhileBusy : Reg → Bool
  | .status => true
  | .config => true
  | .resultNonce => true
  | .attempts => true
  | .elapsed => true
  | .msgLenLo => true
  | .msgLenHi => true
  | .digestOut _ => true
  | .id => false
  | .ctrl => false
  | .cmd => false
  | .dataIn => false
  | .nonceStart => false
  | .maxNonce => false
  | .nonceIn => false
  | .reserved => false
  | .expect _ => false

/-- The value a host read returns (R42, R46): the register's value, or a fresh draw where R42 leaves it open.
Of STATUS only MATCH and RESULT are drawn; of the other registers the whole word is, reserved bits included (log
entry 7). -/
def State.readValue (s : State) (r : Reg) : Word32 :=
  if s.busy && anyWhileBusy r then
    if r = .status then s.statusDrawn s.draw else s.draw
  else s.regValue r

/-- A host read (R48, R54): the block's state is unchanged. -/
def State.hostRead (s : State) (r : Reg) : State :=
  { s with
    readData := s.readValue r
    draws := if s.busy && anyWhileBusy r then s.draws + 1 else s.draws }

/-- A host write (R27 to R41, R46). Writes to read-only registers and reserved offsets are ignored. -/
def State.hostWrite (s : State) (r : Reg) (v : Word32) : State :=
  match r with
  | .ctrl => { s.setEnables v with cancelReq := s.cancelReq || (v.getLsbD 2 && s.searchPending) }
  | .status => s.clearStatus v
  | .cmd => s.acceptCommand v
  | .dataIn => { s with dataIn := v }
  | .nonceStart => { s with nonceStart := v }
  | .maxNonce => { s with maxNonce := v }
  | .nonceIn => { s with nonceIn := v }
  | .expect i => { s with expect := s.expect.set i v }
  | .id => s
  | .config => s
  | .resultNonce => s
  | .attempts => s
  | .elapsed => s
  | .msgLenLo => s
  | .msgLenHi => s
  | .reserved => s
  | .digestOut _ => s

/-- A host access (R48): an aligned 32-bit access inside the window takes effect; every other access is a
host-side fault and has no effect. -/
def hostAccess (width : AccessWidth) (offset : Nat) (effect : Reg → State) :
    Host.Outcome State Fault Refusal :=
  if width ≠ .word then .fault .busErrorWidth
  else if offset % 4 ≠ 0 then .fault .busErrorMisaligned
  else
    match regAt offset with
    | some r => .next (effect r)
    | none => .fault .outsideWindow

/-! ### The platform and the schedule -/

/-- The steps left to the agents. -/
def State.withSchedule (s : State) (rest : List Event) : State := { s with schedule := rest }

/-- Hardware reset (R132, R133): the whole instance state is replaced. The platform's input and its
numbering of the instances, the value the host last read, the draws and the schedule are no state of the instance
(log entry 14). -/
def State.hardwareReset (s : State) : State :=
  { State.reset with
    cancelIn := s.cancelIn, engineIndex := s.engineIndex, readData := s.readData, draws := s.draws
    schedule := s.schedule }

/-- The platform sets the level of `cancel_in` (R127): a level of 1 while a SEARCH is pending sets CANCEL_REQ
(R113). -/
def State.setCancelIn (s : State) (level : Bool) : State :=
  { s with cancelIn := level, cancelReq := s.cancelReq || (level && s.searchPending) }

end Sys2Proof.Machine
end

