-- ==== Sys2Proof/Machine/EngineCommands.lean ====
section
/-! DEFINITION. The completion steps of INIT, RESET, UPD1, UPDN and DIGEST (42_engine_commands.md R97 to R102).
Their errors are those of `State.refusal`, at the accept step and here alike. -/

namespace Sys2Proof.Machine

/-- INIT (R97): select a variant and mode and start a fresh stream. M = 3 never reaches `eng.MODE` (R71):
`State.complete` refuses it. -/
def execInit (mode : BitVec 2) (variant : Variant) (s : State) : Host.Outcome State Fault Refusal :=
  s.complete (.init mode variant) fun _ =>
    State.restartStream { s with variant := variant, mode := (modeOfField mode).getD s.mode }

/-- RESET (R98): start a fresh stream and keep the variant and the mode. -/
def execReset (s : State) : Host.Outcome State Fault Refusal :=
  s.complete .reset fun _ => s.restartStream

/-- UPD1 (R99): absorb the byte B. -/
def execUpd1 (byte : Byte) (s : State) : Host.Outcome State Fault Refusal :=
  s.complete (.upd1 byte) fun _ => s.absorbBytes [byte]

/-- UPDN (R100): absorb the first N bytes of the latched DATA_IN. -/
def execUpdn (count : BitVec 3) (s : State) : Host.Outcome State Fault Refusal :=
  s.complete (.updn count) fun p => s.absorbBytes (updnBytes p.dataIn count)

/-- DIGEST (R102): write the digest of the stream; the stream is unchanged. -/
def execDigest (s : State) : Host.Outcome State Fault Refusal :=
  s.complete .digest fun _ => { s with digestOut := digestWords s.streamDigest }

end Sys2Proof.Machine
end

