-- ==== Sys2Proof/Machine/SearchCommands.lean ====
section
/-! DEFINITION. SEARCH and VERIFY (43_search_commands.md): the predicate (R107), the search loop (R109), the
result registers (R111), cancellation (R113) and verification (R115). -/

namespace Sys2Proof.Machine

/-- `pz(d, k)` (R107): the first k hex characters of the digest are '0'. -/
def prefixZero (d : List Byte) (k : Nat) : Bool :=
  decide (k ≤ 64) && (List.range k).all fun j => nibble d j == 0

/-- An outcome of the search loop (R109, R113). -/
inductive SearchOutcome where
  | found (nonce : Word32) (digest : List Byte) (attempts : Word32)
  | notFound (attempts : Word32)
  | cancelled (attempts : Word32)
deriving DecidableEq, Repr

/-- The loop of R109 without cancellation: the number of nonces left before `max`, and the nonce to test. -/
def searchLoop (cand : Word32 → List Byte) (k : Nat) (start : Word32) : Nat → Word32 → SearchOutcome
  | 0, n => .notFound (n - start)
  | left + 1, n =>
    if prefixZero (cand n) k then .found n (cand n) (n - start + 1) else searchLoop cand k start left (n + 1)

/-- The attempts an outcome reports (R111). -/
def SearchOutcome.attempts : SearchOutcome → Word32
  | .found _ _ a => a
  | .notFound a => a
  | .cancelled a => a

/-- The outcome of an uncancelled SEARCH on its latched range (R109): no nonce when `max ≤ start`. -/
def uncancelledOutcome (cand : Word32 → List Byte) (k : Nat) (p : Pending) : SearchOutcome :=
  searchLoop cand k p.nonceStart (p.maxNonce.toNat - p.nonceStart.toNat) p.nonceStart

/-- The outcome when a cancel request may have been seen (R113): the draw chooses among the uncancelled outcome
and CANCELLED(c) for every c below that outcome's attempts. -/
def cancelChoice (o : SearchOutcome) (d : Word32) : SearchOutcome :=
  if d.toNat % (o.attempts.toNat + 1) < o.attempts.toNat then
    .cancelled (BitVec.ofNat 32 (d.toNat % (o.attempts.toNat + 1)))
  else o

/-- The outcome of the completion step of a SEARCH (R109, R113). The second draw of the step is the cancel
point; the first is ELAPSED. -/
def State.searchOutcome (s : State) (k : Nat) (suffix : Suffix) (p : Pending) : SearchOutcome :=
  let o := uncancelledOutcome (s.candidate suffix) k p
  if s.cancelReq then cancelChoice o (s.drawAfter 1) else o

/-- The result registers of a SEARCH (R35, R111). -/
def State.writeOutcome (s : State) : SearchOutcome → State
  | .found n d a =>
    { s with result := .found, resultNonce := n, attempts := a, digestOut := digestWords d }
  | .notFound a =>
    { s with result := .notFound, resultNonce := 0xFFFFFFFF, attempts := a, digestOut := Vector.replicate 8 0 }
  | .cancelled a =>
    { s with result := .cancelled, resultNonce := 0xFFFFFFFF, attempts := a, digestOut := Vector.replicate 8 0 }

/-- ELAPSED takes a draw (R125), and the step has used two draws. -/
def State.drawElapsed (s : State) : State := { s with elapsed := s.draw, draws := s.draws + 2 }

/-- SEARCH (R110): K leading zero hex characters, over the latched nonce range. -/
def execSearch (zeros : BitVec 7) (suffix : Suffix) (s : State) : Host.Outcome State Fault Refusal :=
  s.complete (.search zeros suffix) fun p =>
    (s.writeOutcome (s.searchOutcome zeros.toNat suffix p)).drawElapsed

/-- VERIFY (R115): derive the candidate of the latched NONCE_IN again and compare it with the latched EXPECT. -/
def execVerify (suffix : Suffix) (s : State) : Host.Outcome State Fault Refusal :=
  s.complete (.verify suffix) fun p =>
    { s with
      digestOut := digestWords (s.candidate suffix p.nonceIn)
      matched := decide (digestWords (s.candidate suffix p.nonceIn) = p.expect) }

end Sys2Proof.Machine
end

