-- ==== Sys2Proof/Machine/Dispatch.lean ====
section
/-! DEFINITION. One arm per command: the completion step of each (10_state.md R45). -/

namespace Sys2Proof.Machine

def exec (i : Instr) (s : State) : Host.Outcome State Fault Refusal :=
  match i with
  | .init mode variant => Sys2Proof.Machine.execInit mode variant s
  | .reset => Sys2Proof.Machine.execReset s
  | .upd1 byte => Sys2Proof.Machine.execUpd1 byte s
  | .updn count => Sys2Proof.Machine.execUpdn count s
  | .digest => Sys2Proof.Machine.execDigest s
  | .search zeros suffix => Sys2Proof.Machine.execSearch zeros suffix s
  | .verify suffix => Sys2Proof.Machine.execVerify suffix s

end Sys2Proof.Machine
end

