-- ==== Sys2Proof/Machine/Agents.lean ====
section
/-! DEFINITION. The steps of the three agents (10_state.md R15): the host's accesses, the engine's completion
step and the platform's inputs. -/

namespace Sys2Proof.Machine

/-- The engine's step (R45): the pending word is decoded and the command's completion runs. With nothing pending
the engine is idle (R131). A pending word that is no command, which no run reaches, is dropped with ILLEGAL_CMD
(log entry 9). -/
def engineStep (s : State) : Host.Outcome State Fault Refusal :=
  match s.pend with
  | none => .next s
  | some p =>
    match decode p.word with
    | .ok i => exec i s
    | .error _ => .next (s.dropCommand .illegalCmd)

/-- The step of one agent (R15). -/
def agentStep (e : Event) (s : State) : Host.Outcome State Fault Refusal :=
  match e with
  | .hostRead width offset => hostAccess width offset s.hostRead
  | .hostWrite width offset value => hostAccess width offset fun r => s.hostWrite r value
  | .engine => engineStep s
  | .platformReset => .next s.hardwareReset
  | .platformCancelIn level => .next (s.setCancelIn level)

/-- A word made pending, as its acceptance leaves it (R44), with nothing scheduled before its completion. A word
that is no command is latched alone. -/
def State.withPendingWord (s : State) (word : Word32) : State :=
  match decode word with
  | .ok i => (s.latchCommand i word).withSchedule []
  | .error _ => State.withSchedule { s with pend := some (s.latched word) } []

end Sys2Proof.Machine
end

