-- ==== Sys2Proof/Machine/Step.lean ====
section
/-! DEFINITION. One step of the machine: the next agent of the schedule moves (10_state.md R15), and with an
empty schedule the engine moves, so that a pending command completes (70_reset_and_hazards.md R141). -/

namespace Sys2Proof.Machine

/-- One step. -/
def step (s : State) : Host.Outcome State Fault Refusal :=
  match s.schedule with
  | [] => engineStep s
  | e :: rest => agentStep e (s.withSchedule rest)

/-- The instruction whose bits are `w`, stored where the next step takes its command from: `eng.PEND`, as the
acceptance of the word leaves it. -/
def State.withFetchWord (s : State) (nbits w : Nat) : State :=
  s.withPendingWord (BitVec.ofNat 32 (w % 2 ^ nbits))

end Sys2Proof.Machine
end

