-- ==== Sys2Proof/Machine/System.lean ====
section
/-! DEFINITION. A system of `NUM_ENGINES` independent instances (60_exceptions.md R129). How the platform wires
`found_out` of one instance to `cancel_in` of another is its own choice (R60): it shows in the instances'
schedules. -/

namespace Sys2Proof.Machine

/-- The instances, in the platform's order (R129). -/
structure System where
  instances : List State
deriving DecidableEq, Repr

/-- Every instance after reset (R129, R132), each under an index of its own, so that no draw of one instance is a draw
of another (log entries 2 and 16). -/
def System.reset : System :=
  { instances := (List.range Config.numEngines).map fun n => { State.reset with engineIndex := n } }

/-- One instance takes a step; no state is shared (R129). Two points are the model's choice (DESIGN CHOICE, log entries
6 and 16): a host-side fault at one instance (R48) ends the run of the whole system, where the spec does not say what
it means for the other instances; and where there is no instance of that number nothing happens. -/
def System.stepAt (sys : System) (j : Nat) : Host.Outcome System Fault Refusal :=
  match sys.instances[j]? with
  | none => .next sys
  | some s =>
    match step s with
    | .next t => .next { instances := sys.instances.set j t }
    | .fault f => .fault f
    | .refused r => .refused r

end Sys2Proof.Machine
end

