-- ==== Sys2Proof/Safety.lean ====
section
/-! DEFINITION. What the claims speak of: which agent moves and what it does, the stream that a state holds
(10_state.md R22), and the invariants that every step keeps. -/

namespace Sys2Proof.Machine

/-- The engine moves next (R15, R141). -/
abbrev State.engineMoves (s : State) : Prop := s.schedule = [] ∨ s.schedule.head? = some .engine

/-- The next step is a host write of `v` at the offset. -/
abbrev State.writes (s : State) (offset : Nat) (v : Word32) : Prop :=
  s.schedule.head? = some (.hostWrite .word offset v)

/-- The length check of the accept step fails (R101, R114). -/
abbrev State.lengthCheckFails (s : State) (i : Instr) : Prop :=
  (∃ b, i = .upd1 b ∧ 2 ^ 61 - 1 < s.len.toNat + 1)
  ∨ (∃ n, i = .updn n ∧ 2 ^ 61 - 1 < s.len.toNat + n.toNat)
  ∨ ((∃ k, i = .search k .dec) ∨ i = .verify .dec) ∧ 2 ^ 61 - 1 < s.len.toNat + 10
  ∨ ((∃ k, i = .search k .le32) ∨ i = .verify .le32) ∧ 2 ^ 61 - 1 < s.len.toNat + 4

/-- The command `i` is pending with the latched operands `p`, and the accept step's checks hold of it (R44): it is
legal and passes the length check. -/
abbrev State.ready (s : State) (i : Instr) (p : Pending) : Prop :=
  s.pend = some p ∧ i.wellFormed = true ∧ i.allowedUnder s.variant = true ∧ ¬ s.lengthCheckFails i

/-- The next step is the completion step of the command `i` (R45). -/
abbrev State.completes (s : State) (i : Instr) : Prop :=
  s.engineMoves ∧ ∃ p, decode p.word = .ok i ∧ s.ready i p

/-- The next step is the acceptance of the command `i`, written as the word `c` (R44). -/
abbrev State.accepts (s : State) (i : Instr) (c : Word32) : Prop :=
  s.writes 0x10 c ∧ s.pend = none ∧ legalCommand s.variant c = some i ∧ ¬ s.lengthCheckFails i

/-- The next step is a CMD write that is refused (R44, R118). -/
abbrev State.refusesCommand (s : State) : Prop :=
  ∃ c, s.writes 0x10 c ∧
    (s.pend ≠ none ∨ legal s.variant c = false
      ∨ ∃ i, legalCommand s.variant c = some i ∧ s.lengthCheckFails i)

/-- The next step is a hardware reset (R133). -/
abbrev State.resets (s : State) : Prop := s.schedule.head? = some .platformReset

/-- `i` is SEARCH or VERIFY. -/
abbrev isSearchOrVerify (i : Instr) : Prop := (∃ k f, i = .search k f) ∨ ∃ f, i = .verify f

/-- The state a refused command leaves (R44, R118): ERR, and ERRCODE where no error was recorded. -/
abbrev State.withError (s : State) (code : ErrCode) : State :=
  { s with err := true, errCode := if s.err then s.errCode else code }

/-- The state holds the stream `m` (R22). -/
abbrev State.holdsStream (s : State) (m : List Byte) : Prop :=
  absorb s.variant s.mode (initChain s.variant, []) m = (s.cv, s.buf)
    ∧ s.len.toNat = m.length ∧ s.buf.length = s.len.toNat % 64

/-- A pending command is legal and passed the length check at its acceptance (R44). -/
abbrev State.pendingLegal (s : State) : Prop :=
  ∀ p, s.pend = some p → ∃ i, legalCommand s.variant p.word = some i ∧ ¬ s.lengthCheckFails i

/-- The invariant of R22, with what it needs of a pending command. -/
structure State.StreamInv (s : State) : Prop where
  stream : ∃ m, s.holdsStream m
  pending : s.pendingLegal

/-- The invariant of the records: the error record (R28, R118), the cancel request (R127, R113), the sentinel of
RESULT_NONCE (R35) and the lifetime of MATCH and RESULT (R43, D45). -/
structure State.RecordInv (s : State) : Prop where
  errorCode : s.err = false ↔ s.errCode = .none
  cancel : s.searchPending = true → s.cancelIn = true → s.cancelReq = true
  foundNonce : s.result = .found → s.resultNonce ≠ 0xFFFFFFFF
  sentinel : s.result = .notFound ∨ s.result = .cancelled → s.resultNonce = 0xFFFFFFFF
  oneOutcome : s.matched = true → s.result = .none
  cleared : ∀ p, s.pend = some p → (opcodeOf p.word = 0x06#8 ∨ opcodeOf p.word = 0x07#8) →
    s.matched = false ∧ s.result = .none

end Sys2Proof.Machine
end

