-- ==== Sys2Proof/Certificates/Slice0/Obligations.lean ====
section
/-! DEFINITION. The statements for the provers, file by file of spec/. A statement whose docstring names a rule
first states that rule; one that begins with 'Derived' rests on the sections it names. -/

namespace Sys2Proof.Machine

/-- The number of a SEARCH result in STATUS (R28). -/
def resultNumber : SearchResult → Nat
  | .none => 0
  | .found => 1
  | .notFound => 2
  | .cancelled => 3

/-- The number of an error code (R117). -/
def errorNumber : ErrCode → Nat
  | .none => 0
  | .illegalCmd => 1
  | .busy => 2
  | .lengthOverflow => 3

/-- Offset and value of every register that reads exactly at all times, STATUS apart (R42). -/
def exactReads (s : State) : List (Nat × Word32) :=
  [(0x00, 0x534D4801), (0x04, BitVec.ofNat 32 (s.ieDone.toNat + 2 * s.ieErr.toNat)), (0x10, 0),
    (0x14, s.dataIn), (0x18, s.nonceStart), (0x1C, s.maxNonce), (0x20, s.nonceIn), (0x38, 0), (0x3C, 0)]
  ++ (List.finRange 8).map fun i => (0x60 + 4 * i.val, s.expect[i])

/-- Offset and value of every register that is any value while BUSY, as it reads when idle, STATUS apart
(R29, R35 to R39, R42). -/
def idleReads (s : State) : List (Nat × Word32) :=
  [(0x0C, BitVec.ofNat 32
      ((if s.variant = .fastMixDigest then 1 else 0)
        + (match s.mode with | .fast => 0 | .standard => 2 | .secure => 4) + 256 * s.buf.length)),
    (0x24, s.resultNonce), (0x28, s.attempts), (0x2C, s.elapsed),
    (0x30, BitVec.ofNat 32 s.len.toNat), (0x34, BitVec.ofNat 32 (s.len.toNat / 2 ^ 32))]
  ++ (List.finRange 8).map fun i => (0x40 + 4 * i.val, s.digestOut[i])

/-- The bits of STATUS that read exactly at all times (R42): BUSY, DONE, ERR and ERRCODE. -/
def exactStatus (s : State) : Nat :=
  (if s.pend = none then 0 else 1) + 2 * s.done.toNat + 4 * s.err.toNat + 256 * errorNumber s.errCode

/-- There are exactly `n` words with the property `P`. -/
def HasCount (P : Word32 → Prop) (n : Nat) : Prop :=
  ∃ l : List Word32, l.Nodup ∧ l.length = n ∧ ∀ w, w ∈ l ↔ P w

/-- The four words of `FM_IV` in `eng.CV` (R19, R85). -/
def fmIvChain : Chain := Config.fmIV 0 ++ Config.fmIV 1 ++ Config.fmIV 2 ++ Config.fmIV 3

end Sys2Proof.Machine

open Sys2Proof Sys2Proof.Machine

/-! ### 30_encoding.md -/

/-- Derived from the formats of 30_encoding.md section 2: one word of each command, written out from its format,
and words of no command. -/
def Obligations.DecodeReadsWordsWrittenFromTheFormats : Prop :=
  decode 0x01000005 = .ok (.init 2 .fastMixDigest) ∧ decode 0x02000000 = .ok .reset
    ∧ decode 0x03000061 = .ok (.upd1 0x61) ∧ decode 0x04000003 = .ok (.updn 3)
    ∧ decode 0x05000000 = .ok .digest ∧ decode 0x06000102 = .ok (.search 2 .le32)
    ∧ decode 0x0600007F = .ok (.search 127 .dec) ∧ decode 0x07000100 = .ok (.verify .le32)
    ∧ decode 0x01000008 = .error .reservedBits ∧ decode 0x06000080 = .error .reservedBits
    ∧ decode 0x00000000 = .error .reservedOpcode ∧ decode 0xFF000000 = .error .reservedOpcode

/-- Derived from 30_encoding.md section 2: the decoder gives back every command from its word, with every operand
at every value its field admits. -/
def Obligations.DecodeOfEncodeIsTheCommand : Prop :=
  ∀ i : Instr, decode (encode i) = .ok i

/-- Derived from 30_encoding.md section 2: a word that decodes is the one word of its command, so that no bit of
the word is ignored. -/
def Obligations.EncodeOfDecodeIsTheWord : Prop :=
  ∀ (w : Word32) (i : Instr), decode w = .ok i → encode i = w

/-- R72: the legal words, field by field, and what an illegal word written to CMD does when idle. -/
def Obligations.LegalWordsAreThoseOfTheRule : Prop :=
  (∀ (v : Variant) (c : Word32), legal v c = true ↔
    (c.extractLsb' 24 8 = 0x01#8 ∧ c.extractLsb' 3 21 = 0 ∧ c.extractLsb' 1 2 ≠ 3#2)
    ∨ (c.extractLsb' 24 8 = 0x02#8 ∧ c.extractLsb' 0 24 = 0)
    ∨ (c.extractLsb' 24 8 = 0x03#8 ∧ c.extractLsb' 8 16 = 0)
    ∨ (c.extractLsb' 24 8 = 0x04#8 ∧ c.extractLsb' 3 21 = 0
        ∧ 1 ≤ (c.extractLsb' 0 3).toNat ∧ (c.extractLsb' 0 3).toNat ≤ 4)
    ∨ (c.extractLsb' 24 8 = 0x05#8 ∧ c.extractLsb' 0 24 = 0)
    ∨ (c.extractLsb' 24 8 = 0x06#8 ∧ c.extractLsb' 9 15 = 0 ∧ c.getLsbD 7 = false
        ∧ (c.getLsbD 8 = false ∨ v = .fastMixDigest))
    ∨ (c.extractLsb' 24 8 = 0x07#8 ∧ c.extractLsb' 9 15 = 0 ∧ c.extractLsb' 0 8 = 0
        ∧ (c.getLsbD 8 = false ∨ v = .fastMixDigest)))
  ∧ ∀ (s : State) (c : Word32) (rest : List Event),
      s.pend = none → legal s.variant c = false → s.schedule = .hostWrite .word 0x10 c :: rest →
      step s = .next (State.withError (s.withSchedule rest) .illegalCmd)

/-- R73: the number of legal words of each opcode, and in all. -/
def Obligations.LegalWordCounts : Prop :=
  (∀ v : Variant,
    HasCount (fun w => legal v w = true ∧ w.extractLsb' 24 8 = 0x01#8) 6
    ∧ HasCount (fun w => legal v w = true ∧ w.extractLsb' 24 8 = 0x02#8) 1
    ∧ HasCount (fun w => legal v w = true ∧ w.extractLsb' 24 8 = 0x03#8) 256
    ∧ HasCount (fun w => legal v w = true ∧ w.extractLsb' 24 8 = 0x04#8) 4
    ∧ HasCount (fun w => legal v w = true ∧ w.extractLsb' 24 8 = 0x05#8) 1
    ∧ HasCount (fun w => legal v w = true ∧ w.extractLsb' 24 8 = 0x06#8)
        (if v = .fastMixDigest then 256 else 128)
    ∧ HasCount (fun w => legal v w = true ∧ w.extractLsb' 24 8 = 0x07#8)
        (if v = .fastMixDigest then 2 else 1))
  ∧ HasCount (fun w => legal .fastMixDigest w = true) 526
  ∧ HasCount (fun w => legal .standardDigest w = true) 397

/-! ### 10_state.md: the steps -/

/-- Derived from 10_state.md R45 and 70_reset_and_hazards.md R141: the engine's step runs the pending command. Two
clauses are the model's choice, which no rule states: that the engine moves when the schedule is empty, and that its
step with nothing pending leaves the state (log entry 5, DESIGN CHOICE); that a pending command is completed by the
next engine step rests on log entry 10 (DEDUCED). -/
def Obligations.StepRunsThePendingCommand : Prop :=
  (∀ (s : State) (p : Pending) (i : Instr), s.pend = some p → decode p.word = .ok i →
    (s.schedule = [] → step s = exec i s)
    ∧ ∀ rest, s.schedule = .engine :: rest → step s = exec i (s.withSchedule rest))
  ∧ ∀ s : State, s.pend = none →
    (s.schedule = [] → step s = .next s)
    ∧ ∀ rest, s.schedule = .engine :: rest → step s = .next { s with schedule := rest }

/-- R44 and R118: the accept step, its checks in their order, what a refusal records and what an acceptance
latches. -/
def Obligations.AcceptStepChecksThenLatches : Prop :=
  ∀ (s : State) (c : Word32) (rest : List Event), s.schedule = .hostWrite .word 0x10 c :: rest →
    (s.pend ≠ none → step s = .next (State.withError (s.withSchedule rest) .busy))
    ∧ (s.pend = none → legal s.variant c = false →
        step s = .next (State.withError (s.withSchedule rest) .illegalCmd))
    ∧ ∀ i, s.pend = none → legalCommand s.variant c = some i →
        (s.lengthCheckFails i →
          step s = .next (State.withError (s.withSchedule rest) .lengthOverflow))
        ∧ (¬ s.lengthCheckFails i →
          ∃ t, step s = .next t ∧ t.busy = true
            ∧ (isSearchOrVerify i → t = { s with
                schedule := rest
                pend := some ⟨c, s.dataIn, s.nonceStart, s.maxNonce, s.nonceIn, s.expect⟩
                cancelReq := s.cancelIn
                result := .none
                matched := false })
            ∧ (¬ isSearchOrVerify i → t = { s with
                schedule := rest
                pend := some ⟨c, s.dataIn, s.nonceStart, s.maxNonce, s.nonceIn, s.expect⟩
                cancelReq := s.cancelIn }))

/-- Derived from 10_state.md R45 and 70_reset_and_hazards.md R141: a well-formed command, written to an idle
engine under a variant and at a length that admit it, is accepted, and the engine's next step completes it. -/
def Obligations.EveryAcceptedCommandCompletes : Prop :=
  ∀ (s : State) (i : Instr), s.pend = none → i.wellFormed = true → i.allowedUnder s.variant = true →
    ¬ s.lengthCheckFails i → s.schedule = [.hostWrite .word 0x10 (encode i)] →
    ∃ t u, step s = .next t ∧ t.busy = true ∧ t.done = s.done ∧ step t = .next u
      ∧ u.busy = false ∧ u.done = true ∧ u.err = s.err ∧ u.errCode = s.errCode ∧ u.schedule = []

/-- Derived from 20_memory.md R48 and 10_state.md R45: no step refuses, and a step stops only at a host access
that is not an aligned 32-bit access inside the window. That an access outside the window stops, its name
outsideWindow, and the order in which the width, the alignment and the window are looked at are the model's choice
(log entry 6, DESIGN CHOICE). -/
def Obligations.StepStopsOnlyAtRefusedBusAccesses : Prop :=
  ∀ s : State,
    (∀ r, step s ≠ .refused r)
    ∧ ∀ f, step s = .fault f →
      ∃ (w : AccessWidth) (o : Nat) (rest : List Event),
        (s.schedule = .hostRead w o :: rest ∨ ∃ v, s.schedule = .hostWrite w o v :: rest)
        ∧ ((w ≠ .word ∧ f = .busErrorWidth)
          ∨ (w = .word ∧ o % 4 ≠ 0 ∧ f = .busErrorMisaligned)
          ∨ (w = .word ∧ o % 4 = 0 ∧ 0x80 ≤ o ∧ f = .outsideWindow))

/-- Derived from 20_memory.md R48: every aligned 32-bit access inside the window is performed, and every other
access stops with the fault that names why. The stop outside the window, its name, and
the order width, alignment, window are the model's choice (log entry 6, DESIGN CHOICE). -/
def Obligations.BusAccessesPerformedOrFaulted : Prop :=
  ∀ (s : State) (w : AccessWidth) (o : Nat) (e : Event) (rest : List Event),
    (e = .hostRead w o ∨ ∃ v, e = .hostWrite w o v) → s.schedule = e :: rest →
    (w = .word → o % 4 = 0 → o < 0x80 → ∃ t, step s = .next t)
    ∧ (w ≠ .word → step s = .fault .busErrorWidth)
    ∧ (w = .word → o % 4 ≠ 0 → step s = .fault .busErrorMisaligned)
    ∧ (w = .word → o % 4 = 0 → 0x80 ≤ o → step s = .fault .outsideWindow)

/-! ### 10_state.md: the registers -/

/-- Derived from 10_state.md R25 to R41: what every register of the window reads when idle; the read changes
nothing but the value the host holds. -/
def Obligations.IdleReadsGiveTheRegisterValues : Prop :=
  ∀ (s : State) (o : Nat) (v : Word32) (rest : List Event),
    s.pend = none → s.buf.length < 64 → s.schedule = .hostRead .word o :: rest →
    (o, v) ∈ (0x08, BitVec.ofNat 32 (exactStatus s + 8 * s.matched.toNat + 16 * resultNumber s.result))
        :: exactReads s ++ idleReads s →
    step s = .next { s with schedule := rest, readData := v }

/-- Derived from 10_state.md R42, R30 and R41: the exact registers read their values at all times (R42), CMD reads 0
(R30), the reserved offsets and the reserved bits of STATUS read 0 (R41), and BUSY, DONE, ERR and ERRCODE of STATUS
read exactly (R42); while BUSY, MATCH and RESULT and every other register read a fresh draw (R42). Two points are the
model's choice: that the draw is the whole word of CONFIG and MSGLEN_HI, their reserved bits included, where R41 has
reserved bits read 0 (log entry 7, DEDUCED); and that it is the next one of the instance's own sequence (log entry 2,
DESIGN CHOICE). -/
def Obligations.BusyReadsAreExactOrDrawn : Prop :=
  ∀ (s : State) (o : Nat) (rest : List Event), s.schedule = .hostRead .word o :: rest →
    (∀ v, (o, v) ∈ exactReads s → step s = .next { s with schedule := rest, readData := v })
    ∧ (o = 0x08 → ∃ t, step s = .next t ∧ t.readData &&& ~~~0x38#32 = BitVec.ofNat 32 (exactStatus s)
        ∧ (s.pend ≠ none →
            t = { s with schedule := rest, readData := t.readData, draws := s.draws + 1 }
            ∧ t.readData &&& 0x38#32 = Config.freeWord s.engineIndex s.draws &&& 0x38#32))
    ∧ (s.pend ≠ none → (∃ v, (o, v) ∈ idleReads s) →
        step s = .next { s with
          schedule := rest, readData := Config.freeWord s.engineIndex s.draws, draws := s.draws + 1 })

/-- Derived from 10_state.md R41 and 20_memory.md R54: writes to read-only registers and to reserved offsets are
ignored. -/
def Obligations.WritesToReadOnlyOffsetsAreIgnored : Prop :=
  ∀ (s : State) (o : Nat) (v : Word32) (rest : List Event),
    s.schedule = .hostWrite .word o v :: rest →
    (o ∈ [0x00, 0x0C, 0x24, 0x28, 0x2C, 0x30, 0x34, 0x38, 0x3C] ∨ ∃ i, i < 8 ∧ o = 0x40 + 4 * i) →
    step s = .next { s with schedule := rest }

/-- Derived from 10_state.md R31 to R34, R40 and R46: a write to an operand register takes effect at once, busy or
not, and changes nothing else. -/
def Obligations.OperandRegisterWritesTakeEffectAtOnce : Prop :=
  ∀ (s : State) (o : Nat) (v : Word32) (rest : List Event), s.schedule = .hostWrite .word o v :: rest →
    (o = 0x14 → step s = .next { s with schedule := rest, dataIn := v })
    ∧ (o = 0x18 → step s = .next { s with schedule := rest, nonceStart := v })
    ∧ (o = 0x1C → step s = .next { s with schedule := rest, maxNonce := v })
    ∧ (o = 0x20 → step s = .next { s with schedule := rest, nonceIn := v })
    ∧ ∀ i : Fin 8, o = 0x60 + 4 * i.val →
        ∃ t, step s = .next t ∧ t = { s with schedule := rest, expect := t.expect }
          ∧ t.expect[i] = v ∧ ∀ j : Fin 8, j ≠ i → t.expect[j] = s.expect[j]

/-- Derived from 10_state.md R27 and 43_search_commands.md R113: a write to CTRL sets the enables at once, and
bit 2 requests cancellation of a pending SEARCH and of nothing else. -/
def Obligations.CtrlWriteSetsEnablesAndCancels : Prop :=
  ∀ (s : State) (v : Word32) (rest : List Event), s.schedule = .hostWrite .word 0x04 v :: rest →
    ∃ t, step s = .next t
      ∧ t = { s with
          schedule := rest, ieDone := v.getLsbD 0, ieErr := v.getLsbD 1, cancelReq := t.cancelReq }
      ∧ (t.cancelReq = true ↔ s.cancelReq = true
          ∨ (v.getLsbD 2 = true ∧ ∃ p, s.pend = some p ∧ p.word.extractLsb' 24 8 = 0x06#8))

/-- Derived from 10_state.md R28 and 60_exceptions.md R122: a write to STATUS clears DONE by bit 1 and ERR with
ERRCODE by bit 2, and touches nothing else. -/
def Obligations.StatusWriteAcknowledges : Prop :=
  ∀ (s : State) (v : Word32) (rest : List Event), s.schedule = .hostWrite .word 0x08 v :: rest →
    step s = .next { s with
      schedule := rest
      done := if v.getLsbD 1 then false else s.done
      err := if v.getLsbD 2 then false else s.err
      errCode := if v.getLsbD 2 then .none else s.errCode }

/-- R43: when each flag of STATUS is set and cleared, over every step, and that no command reads a flag. A pending
command is taken to be legal (the invariant of `StepKeepsTheStreamInvariant`), and the two runs compared are given the
same draws (log entry 2). -/
def Obligations.StatusFlagLifetimes : Prop :=
  (∀ (i : Instr) (s t : State) (p : Pending) (d e m : Bool) (r : SearchResult) (c : ErrCode), s.ready i p →
    exec i s = .next t →
    exec i { s with done := d, err := e, matched := m, result := r, errCode := c } = .next { t with
      err := e
      errCode := c
      matched := match i with | .verify _ => t.matched | _ => m
      result := match i with | .search _ _ => t.result | _ => r })
  ∧ ∀ s t : State, s.pendingLegal → step s = .next t →
    (s.busy = false → (t.busy = true ↔ ∃ i c, s.accepts i c))
    ∧ (s.busy = true → (t.busy = false ↔ (∃ i, s.completes i) ∨ s.resets))
    ∧ (s.done = false → (t.done = true ↔ ∃ i, s.completes i))
    ∧ (s.done = true → (t.done = false ↔ (∃ v, s.writes 0x08 v ∧ v.getLsbD 1 = true) ∨ s.resets))
    ∧ (s.err = false → (t.err = true ↔ s.refusesCommand))
    ∧ (s.err = true → (t.err = false ↔ (∃ v, s.writes 0x08 v ∧ v.getLsbD 2 = true) ∨ s.resets))
    ∧ (t.errCode ≠ s.errCode →
        s.refusesCommand ∨ (∃ v, s.writes 0x08 v ∧ v.getLsbD 2 = true) ∨ s.resets)
    ∧ (t.matched ≠ s.matched →
        (∃ f, s.completes (.verify f)) ∨ (∃ i c, s.accepts i c ∧ isSearchOrVerify i) ∨ s.resets)
    ∧ (t.result ≠ s.result →
        (∃ k f, s.completes (.search k f)) ∨ (∃ i c, s.accepts i c ∧ isSearchOrVerify i) ∨ s.resets)
    ∧ (((∃ i c, s.accepts i c ∧ isSearchOrVerify i) ∨ s.resets) → t.matched = false ∧ t.result = .none)

/-- Derived from 10_state.md R18: VARIANT and MODE change at the completion of INIT and at a hardware reset
alone. -/
def Obligations.OnlyInitAndResetChangeVariantAndMode : Prop :=
  ∀ s t : State, step s = .next t → (t.variant ≠ s.variant ∨ t.mode ≠ s.mode) →
    (∃ m v, s.completes (.init m v)) ∨ s.resets

/-- Derived from 10_state.md R35 to R37: RESULT_NONCE, ATTEMPTS and ELAPSED change at the completion of SEARCH and
at a hardware reset alone, and DIGEST_OUT at the completion of DIGEST, SEARCH or VERIFY or at a hardware reset
alone (R39). -/
def Obligations.ResultRegistersWrittenByTheirCommandsAlone : Prop :=
  ∀ s t : State, step s = .next t →
    ((t.resultNonce ≠ s.resultNonce ∨ t.attempts ≠ s.attempts ∨ t.elapsed ≠ s.elapsed) →
      (∃ k f, s.completes (.search k f)) ∨ s.resets)
    ∧ (t.digestOut ≠ s.digestOut →
      s.completes .digest ∨ (∃ k f, s.completes (.search k f)) ∨ (∃ f, s.completes (.verify f)) ∨ s.resets)

/-- R139: a write to an operand register while a command is pending does not change what the command does, and a
command accepted after a write uses the written value. The two runs compared are given the same draws (log entry
2). -/
def Obligations.OperandRegistersMayBeReusedAfterAcceptance : Prop :=
  (∀ (i : Instr) (s t : State) (r : Reg) (v : Word32),
    (r ∈ [Reg.dataIn, .nonceStart, .maxNonce, .nonceIn] ∨ ∃ j, r = .expect j) →
    exec i s = .next t → exec i (s.hostWrite r v) = .next (t.hostWrite r v))
  ∧ ∀ (s : State) (p : Pending) (r : Reg) (v c : Word32), s.pend = none →
    ((s.hostWrite r v).hostWrite .cmd c).pend = some p →
    (r = .dataIn → p.dataIn = v) ∧ (r = .nonceStart → p.nonceStart = v) ∧ (r = .maxNonce → p.maxNonce = v)
    ∧ (r = .nonceIn → p.nonceIn = v) ∧ ∀ j : Fin 8, r = .expect j → p.expect[j] = v

/-! ### 00_scope.md and 10_state.md: words and layouts -/

/-- Derived from 00_scope.md R11: a big-endian read gives back what the big-endian write put there, at any place
of a byte string. -/
def Obligations.BigEndianReadAfterWrite : Prop :=
  (∀ (w : Word32) (a b : List Byte), be32 (a ++ toBe32 w ++ b) a.length = w)
  ∧ ∀ (w : Word64) (a b : List Byte), be64 (a ++ toBe64 w ++ b) a.length = w

/-- Derived from 10_state.md R19 and R39: DIGEST_OUT holds the words of the finalized state, in both views, and
the two views of a chaining state lose nothing. -/
def Obligations.DigestWordsAreTheFinalizedWords : Prop :=
  (∀ w : HWords, digestWords (bytesOfH w) = #v[w.a, w.b, w.c, w.d, w.e, w.f, w.g, w.h]
    ∧ hOfChain (chainOfH w) = w)
  ∧ (∀ w : SWords, digestWords (bytesOfS w)
      = #v[w.s0.extractLsb' 32 32, w.s0.extractLsb' 0 32, w.s1.extractLsb' 32 32, w.s1.extractLsb' 0 32,
           w.s2.extractLsb' 32 32, w.s2.extractLsb' 0 32, w.s3.extractLsb' 32 32, w.s3.extractLsb' 0 32]
    ∧ sOfChain (chainOfS w) = w)
  ∧ ∀ cv : Chain, chainOfH (hOfChain cv) = cv ∧ chainOfS (sOfChain cv) = cv

/-! ### 40_standard_digest.md -/

/-- R77: the padding, the length of the padded message, the length field without truncation, and the worked
example. -/
def Obligations.PaddingReachesAWholeNumberOfBlocks : Prop :=
  (∀ (m : List Byte) (z : Nat), z < 64 → (m.length + 1 + z + 8) % 64 = 0 →
    padStd m.length = [0x80] ++ List.replicate z 0 ++ toBe64 (BitVec.ofNat 64 (8 * m.length))
    ∧ (m ++ padStd m.length).length = m.length + 9 + z
    ∧ (m ++ padStd m.length).length = 64 * ((m.length + 8) / 64 + 1)
    ∧ ∀ z', (8 * (m.length + 1 + z') + 64) % 512 = 0 → z ≤ z')
  ∧ (∀ len : Nat, len ≤ 2 ^ 61 - 1 → (BitVec.ofNat 64 (8 * len)).toNat = 8 * len)
  ∧ padStd 3 = [0x80] ++ List.replicate 52 0 ++ [0, 0, 0, 0, 0, 0, 0, 0x18]
  ∧ [0, 55, 56, 63, 64, 119, 120].map (fun len => (padZeros len, len + (padStd len).length))
      = [(55, 64), (0, 64), (63, 128), (56, 128), (55, 128), (0, 128), (63, 192)]

/-- Derived from 40_standard_digest.md R78: the 64 schedule words of a block obey the recurrence. -/
def Obligations.ScheduleWordsObeyTheRecurrence : Prop :=
  ∀ blk : List Byte, (scheduleStd blk).length = 64
    ∧ (∀ i < 16, (scheduleStd blk).getD i 0 = be32 blk (4 * i))
    ∧ ∀ i, 16 ≤ i → i < 64 →
        (scheduleStd blk).getD i 0
          = (scheduleStd blk).getD (i - 16) 0 + smallSigma0 ((scheduleStd blk).getD (i - 15) 0)
            + (scheduleStd blk).getD (i - 7) 0 + smallSigma1 ((scheduleStd blk).getD (i - 2) 0)

/-- R79: the schedule functions, by rotations and a logical shift, with the rule's examples. -/
def Obligations.ScheduleFunctionsRotateAndShift : Prop :=
  (∀ x : Word32, smallSigma0 x = x.rotateRight 7 ^^^ x.rotateRight 18 ^^^ (x >>> 3)
    ∧ smallSigma1 x = x.rotateRight 17 ^^^ x.rotateRight 19 ^^^ (x >>> 10))
  ∧ smallSigma0 0x00000001 = 0x02004000 ∧ smallSigma1 0x00000001 = 0x0000A000
  ∧ smallSigma0 0xFFFFFFFF = 0x1FFFFFFF

/-- R80: the round functions: rotations, the bitwise choice and the bitwise majority, with the rule's cases. -/
def Obligations.RoundFunctionsChooseAndVote : Prop :=
  (∀ x : Word32, bigSigma0 x = x.rotateRight 2 ^^^ x.rotateRight 13 ^^^ x.rotateRight 22
    ∧ bigSigma1 x = x.rotateRight 6 ^^^ x.rotateRight 11 ^^^ x.rotateRight 25)
  ∧ (∀ (e f g : Word32), chooseWord e f g = (e &&& f) ^^^ (~~~e &&& g)
      ∧ ∀ i < 32, (chooseWord e f g).getLsbD i = if e.getLsbD i then f.getLsbD i else g.getLsbD i)
  ∧ (∀ (a b c : Word32), majorityWord a b c = (a &&& b) ^^^ (a &&& c) ^^^ (b &&& c)
      ∧ ∀ i < 32, (majorityWord a b c).getLsbD i
          = decide (2 ≤ (a.getLsbD i).toNat + (b.getLsbD i).toNat + (c.getLsbD i).toNat))
  ∧ (∀ f g : Word32, chooseWord 0xFFFFFFFF f g = f ∧ chooseWord 0 f g = g)
  ∧ (∀ c : Word32, majorityWord 0xFFFFFFFF 0 c = c)
  ∧ bigSigma0 0xFFFFFFFF = 0xFFFFFFFF ∧ bigSigma1 0xFFFFFFFF = 0xFFFFFFFF ∧ bigSigma0 0 = 0

/-- R84: the digest of a message is the compression, from `IV_STD`, of every block of the padded message in order,
with the rule's worked example. -/
def Obligations.StandardDigestOfAWholeMessage : Prop :=
  (∀ (mode : Mode) (m : List Byte), m.length ≤ 2 ^ 61 - 1 →
    digestFrom .standardDigest mode (chainOfH ivStd) m
      = bytesOfH ((blocks64 ((m.length + 8) / 64 + 1) (m ++ padStd m.length)).foldl compressStd ivStd))
  ∧ digestWords (digestFrom .standardDigest .standard (chainOfH ivStd) [])
      = #v[0xe3b0c442, 0x98fc1c14, 0x9afbf4c8, 0x996fb924, 0x27ae41e4, 0x649b934c, 0xa495991b, 0x7852b855]

/-! ### 41_fastmix_digest.md -/

/-- R88: the mix primitive line by line, with the rule's cases. -/
def Obligations.MixRunsFourLinesInOrder : Prop :=
  (∀ x y : Word64,
    mix x y =
      (let x1 := x.rotateRight 13 ^^^ y
       let y1 := y.rotateLeft 17 ^^^ x1
       let x2 := x1.rotateRight 21 ^^^ y1
       let y2 := y1.rotateLeft 29 ^^^ x2
       (x2, y2)))
  ∧ mix 0 0 = (0, 0) ∧ mix 0xFFFFFFFFFFFFFFFF 0xFFFFFFFFFFFFFFFF = (0xFFFFFFFFFFFFFFFF, 0)
  ∧ mix 1 0 = (0x0008000040000000, 0x0008000040010000)

/-- R87, R89 to R92: the block functions of FastMixDigest written out (ingestion with its corner case, the four
lines of a round in order, compression as ingestion and R rounds, finalization with its zero padding, final pass and
two cross passes, each mode with its round count), and the whole-message form: the full blocks compressed in order and
the rest finalized. `mix` is written out in `MixRunsFourLinesInOrder`. -/
def Obligations.FastMixDigestOfAWholeMessage : Prop :=
  (roundCount .fast = 2 ∧ roundCount .standard = 3 ∧ roundCount .secure = 4)
  ∧ (∀ (s : SWords) (blk : List Byte),
      ingest s blk =
        { s0 := s.s0 ^^^ be64 blk (8 * 0) ^^^ be64 blk (8 * 4)
          s1 := s.s1 ^^^ be64 blk (8 * 1) ^^^ be64 blk (8 * 5)
          s2 := s.s2 ^^^ be64 blk (8 * 2) ^^^ be64 blk (8 * 6)
          s3 := s.s3 ^^^ be64 blk (8 * 3) ^^^ be64 blk (8 * 7) }
      ∧ ((∀ j < 4, be64 blk (8 * j) = be64 blk (8 * (j + 4))) → ingest s blk = s))
  ∧ (∀ (s : SWords) (b : Byte), ingest s (List.replicate 64 b) = s)
  ∧ (∀ s : SWords,
      roundFm s =
        (let p := mix s.s0 s.s1
         let q := mix s.s2 s.s3
         let u := mix p.1 q.1
         let w := mix p.2 q.2
         { s0 := u.1, s1 := w.1, s2 := u.2, s3 := w.2 }))
  ∧ (∀ (rounds : Nat) (s : SWords) (blk : List Byte),
      compressFm rounds s blk = Nat.iterate roundFm rounds (ingest s blk))
  ∧ (∀ (rounds : Nat) (s : SWords) (buf : List Byte), buf.length ≤ 63 →
      finalizeFm rounds s buf =
        (let z := compressFm rounds s (buf ++ List.replicate (64 - buf.length) 0)
         let p := mix z.s0 z.s2
         let q := mix z.s1 z.s3
         toBe64 p.1 ++ toBe64 q.1 ++ toBe64 p.2 ++ toBe64 q.2))
  ∧ ∀ (mode : Mode) (iv : SWords) (m : List Byte), m.length ≤ 2 ^ 61 - 1 →
      digestFrom .fastMixDigest mode (chainOfS iv) m
        = finalizeFm (roundCount mode)
            ((blocks64 (m.length / 64) m).foldl (compressFm (roundCount mode)) iv)
            (m.drop (64 * (m.length / 64)))

/-- R93: trailing zeros collide, equal halves ingest nothing, and zero is a fixed point. -/
def Obligations.FastMixCollisionsOfTheRule : Prop :=
  (∀ (mode : Mode) (iv : Chain) (m : List Byte) (j : Nat), m.length % 64 + j ≤ 63 →
    digestFrom .fastMixDigest mode iv (m ++ List.replicate j 0) = digestFrom .fastMixDigest mode iv m)
  ∧ (∀ (mode : Mode) (iv : Chain), digestFrom .fastMixDigest mode iv [] = digestFrom .fastMixDigest mode iv [0])
  ∧ (∀ (rounds : Nat) (s : SWords) (blk : List Byte),
      (∀ j < 4, be64 blk (8 * j) = be64 blk (8 * (j + 4))) → compressFm rounds s blk = roundsFm rounds s)
  ∧ (∀ iv : Chain, digestFrom .fastMixDigest .fast iv (List.replicate 64 0x61)
      = digestFrom .fastMixDigest .secure iv [])
  ∧ ∀ (mode : Mode) (n : Nat), digestFrom .fastMixDigest mode 0 (List.replicate n 0) = List.replicate 32 0

/-! ### 42_engine_commands.md -/

/-- R94: absorbing byte by byte; it does not depend on how the stream was split, and leaves fewer than 64 bytes
in the buffer. -/
def Obligations.AbsorbIsChunkingInvariant : Prop :=
  ∀ (v : Variant) (m : Mode) (cv : Chain) (buf : List Byte), buf.length < 64 →
    (∀ x : Byte, absorb v m (cv, buf) [x]
      = if buf.length = 63 then
          (match v with
            | .standardDigest => chainOfH (compressStd (hOfChain cv) (buf ++ [x]))
            | .fastMixDigest => chainOfS (compressFm (roundCount m) (sOfChain cv) (buf ++ [x])), [])
        else (cv, buf ++ [x]))
    ∧ absorb v m (cv, buf) [] = (cv, buf)
    ∧ (∀ m1 m2 : List Byte, absorb v m (absorb v m (cv, buf) m1) m2 = absorb v m (cv, buf) (m1 ++ m2))
    ∧ ∀ bytes : List Byte, (absorb v m (cv, buf) bytes).2.length < 64

/-- Derived from 42_engine_commands.md R97: INIT completes for every legal mode, with the values the rule gives,
and leaves everything else as it was. -/
def Obligations.InitStartsAFreshStream : Prop :=
  ∀ (s : State) (p : Pending) (m : BitVec 2) (v : Variant), s.pend = some p → m ≠ 3 →
    ∃ mode, modeCode mode = m ∧
      exec (.init m v) s = .next { s with
        variant := v
        mode := mode
        cv := match v with
          | .standardDigest => 0x6a09e667bb67ae853c6ef372a54ff53a510e527f9b05688c1f83d9ab5be0cd19#256
          | .fastMixDigest => fmIvChain
        buf := []
        len := 0
        done := true
        pend := none }

/-- Derived from 42_engine_commands.md R98: RESET completes, keeps VARIANT and MODE and restarts the stream. -/
def Obligations.ResetCommandRestartsTheStream : Prop :=
  ∀ (s : State) (p : Pending), s.pend = some p →
    exec .reset s = .next { s with
      cv := match s.variant with
        | .standardDigest => 0x6a09e667bb67ae853c6ef372a54ff53a510e527f9b05688c1f83d9ab5be0cd19#256
        | .fastMixDigest => fmIvChain
      buf := []
      len := 0
      done := true
      pend := none }

/-- Derived from 42_engine_commands.md R99: UPD1 completes and absorbs its byte; the 64th byte of the buffer
completes a block. -/
def Obligations.Upd1AbsorbsItsByte : Prop :=
  ∀ (s : State) (p : Pending) (b : Byte), s.pend = some p → s.len.toNat + 1 ≤ 2 ^ 61 - 1 →
    (s.buf.length = 63 → exec (.upd1 b) s = .next { s with
      cv := match s.variant with
        | .standardDigest => chainOfH (compressStd (hOfChain s.cv) (s.buf ++ [b]))
        | .fastMixDigest => chainOfS (compressFm (roundCount s.mode) (sOfChain s.cv) (s.buf ++ [b]))
      buf := []
      len := s.len + 1
      done := true
      pend := none })
    ∧ (s.buf.length < 63 → exec (.upd1 b) s = .next { s with
      buf := s.buf ++ [b]
      len := s.len + 1
      done := true
      pend := none })

/-- Derived from 42_engine_commands.md R100: UPDN completes for N from 1 to 4 and absorbs the first N bytes of the
latched DATA_IN, the most significant first. -/
def Obligations.UpdnAbsorbsTheFirstBytesOfDataIn : Prop :=
  ∀ (s : State) (p : Pending) (n : BitVec 3), s.pend = some p → 1 ≤ n.toNat → n.toNat ≤ 4 →
    s.len.toNat + n.toNat ≤ 2 ^ 61 - 1 →
    ∃ st : Chain × List Byte,
      st = absorb s.variant s.mode (s.cv, s.buf)
        ([p.dataIn.extractLsb' 24 8, p.dataIn.extractLsb' 16 8, p.dataIn.extractLsb' 8 8,
          p.dataIn.extractLsb' 0 8].take n.toNat)
      ∧ exec (.updn n) s = .next { s with
          cv := st.1, buf := st.2, len := s.len + BitVec.ofNat 61 n.toNat, done := true, pend := none }

/-- Derived from 42_engine_commands.md R95 and R102: DIGEST completes, writes the digest of the stream to
DIGEST_OUT and changes nothing else. -/
def Obligations.DigestWritesTheStreamDigest : Prop :=
  ∀ (s : State) (p : Pending), s.pend = some p →
    ∃ d : List Byte,
      d = (match s.variant with
        | .standardDigest => finalizeStd (hOfChain s.cv) s.buf s.len.toNat
        | .fastMixDigest => finalizeFm (roundCount s.mode) (sOfChain s.cv) s.buf)
      ∧ exec .digest s = .next { s with
          digestOut := #v[be32 d 0, be32 d 4, be32 d 8, be32 d 12, be32 d 16, be32 d 20, be32 d 24, be32 d 28]
          done := true
          pend := none }

/-- Derived from 42_engine_commands.md R102: DIGEST, SEARCH and VERIFY leave the stream as it was, so that a
second DIGEST gives the same words. -/
def Obligations.DigestSearchVerifyLeaveTheStream : Prop :=
  ∀ (s t u : State) (i : Instr) (p : Pending), (i = .digest ∨ isSearchOrVerify i) → exec i s = .next t →
    (t.variant = s.variant ∧ t.mode = s.mode ∧ t.cv = s.cv ∧ t.buf = s.buf ∧ t.len = s.len)
    ∧ (exec .digest { t with pend := some p } = .next u →
        ∃ u', exec .digest s = .next u' ∧ u.digestOut = u'.digestOut)

/-- Derived from 42_engine_commands.md R97 and 10_state.md R18: under StandardDigest no command but INIT reads or
writes MODE. The two runs compared are given the same draws (log entry 2). -/
def Obligations.ModeIsIgnoredUnderStandardDigest : Prop :=
  ∀ (s t : State) (i : Instr) (m : Mode), s.variant = .standardDigest → (∀ f v, i ≠ .init f v) →
    exec i s = .next t → exec i { s with mode := m } = .next { t with mode := m }

/-- Derived from 42_engine_commands.md R101 and 43_search_commands.md R114: the length check at the CMD write, on
either side of its bound, for the words of UPD1, UPDN, SEARCH and VERIFY. -/
def Obligations.LengthLimitRefusesAtTheBound : Prop :=
  ∀ (s : State) (i : Instr) (grow : Nat) (rest : List Event),
    s.pend = none → i.allowedUnder s.variant = true →
    s.schedule = .hostWrite .word 0x10 (encode i) :: rest →
    ((∃ b, i = .upd1 b ∧ grow = 1) ∨ (∃ n, i = .updn n ∧ grow = n.toNat ∧ 1 ≤ grow ∧ grow ≤ 4)
      ∨ (((∃ k, i = .search k .dec) ∨ i = .verify .dec) ∧ grow = 10)
      ∨ (((∃ k, i = .search k .le32) ∨ i = .verify .le32) ∧ grow = 4)) →
    (s.len.toNat + grow > 2 ^ 61 - 1 →
      step s = .next (State.withError (s.withSchedule rest) .lengthOverflow))
    ∧ (s.len.toNat + grow ≤ 2 ^ 61 - 1 → ∃ t, step s = .next t ∧ t.busy = true ∧ t.err = s.err)

/-- Derived from 60_exceptions.md R117 and R118. Every clause is the model's choice for states that no run reaches.
The meaning of a command whose checks fail records the error that the accept step records, ends the command and
changes nothing else (log entry 9, DESIGN CHOICE). With nothing pending every meaning stops at the fault
completionNotEnabled (log entry 8, DESIGN CHOICE): 10_state.md R45 enables no completion there and gives no stop. -/
def Obligations.MeaningsOfRefusedFormsRecordTheirError : Prop :=
  (∀ (s : State) (p : Pending) (i : Instr), s.pend = some p →
    ((i.wellFormed = false ∨ i.allowedUnder s.variant = false) →
      exec i s = .next (State.withError { s with pend := none } .illegalCmd))
    ∧ (i.wellFormed = true → i.allowedUnder s.variant = true → s.lengthCheckFails i →
      exec i s = .next (State.withError { s with pend := none } .lengthOverflow)))
  ∧ ∀ (s : State) (i : Instr), s.pend = none → exec i s = .fault .completionNotEnabled

/-! ### 43_search_commands.md -/

/-- R105: the two suffix forms. -/
def Obligations.SuffixesAreDecimalTextOrLittleEndian : Prop :=
  (∀ n : Word32,
    1 ≤ (suffixBytes .dec n).length ∧ (suffixBytes .dec n).length ≤ 10
    ∧ (∀ b ∈ suffixBytes .dec n, 0x30 ≤ b.toNat ∧ b.toNat ≤ 0x39)
    ∧ (suffixBytes .dec n).foldl (fun a b => 10 * a + (b.toNat - 0x30)) 0 = n.toNat
    ∧ (n ≠ 0 → (suffixBytes .dec n).head? ≠ some 0x30)
    ∧ suffixBytes .le32 n
        = [n.extractLsb' 0 8, n.extractLsb' 8 8, n.extractLsb' 16 8, n.extractLsb' 24 8])
  ∧ suffixBytes .dec 0 = [0x30] ∧ suffixBytes .dec 10 = [0x31, 0x30]
  ∧ suffixBytes .dec 4294967294 = [0x34, 0x32, 0x39, 0x34, 0x39, 0x36, 0x37, 0x32, 0x39, 0x34]
  ∧ suffixBytes .le32 1 = [0x01, 0x00, 0x00, 0x00]
  ∧ suffixBytes .le32 0x12345678 = [0x78, 0x56, 0x34, 0x12]
  ∧ ∀ k : BitVec 7, legal .standardDigest (encode (.search k .le32)) = false
      ∧ legal .standardDigest (encode (.verify .le32)) = false
      ∧ legal .fastMixDigest (encode (.search k .le32)) = true
      ∧ legal .fastMixDigest (encode (.verify .le32)) = true

/-- R107: the predicate on nibbles, and its corner cases. -/
def Obligations.PrefixPredicateCountsZeroNibbles : Prop :=
  ∀ (d : List Byte) (k : Nat), d.length = 32 →
    (prefixZero d k = true ↔
      k ≤ 64 ∧ ∀ j < k, (if j % 2 = 0 then (d.getD (j / 2) 0).extractLsb' 4 4
        else (d.getD ((j - 1) / 2) 0).extractLsb' 0 4) = 0#4)
    ∧ prefixZero d 0 = true
    ∧ (prefixZero d 64 = true ↔ d = List.replicate 32 0)
    ∧ (65 ≤ k → prefixZero d k = false)

/-- Derived from 20_memory.md R57 and 43_search_commands.md R107: the predicate holds when the hex text of the
digest starts with k characters '0'. -/
def Obligations.PrefixPredicateIsOnTheHexText : Prop :=
  ∀ (d : List Byte) (k : Nat), d.length = 32 →
    (hexText d).length = 64 ∧ (prefixZero d k = true ↔ List.replicate k '0' <+: hexText d)

/-- Derived from 43_search_commands.md R109 to R111: SEARCH completes in every state in which it is pending, for
every operand, and changes its result registers alone. ELAPSED is a draw. -/
def Obligations.SearchCompletesAndWritesItsResults : Prop :=
  ∀ (s : State) (p : Pending) (k : BitVec 7) (f : Suffix), s.ready (.search k f) p →
    ∃ t, exec (.search k f) s = .next t
      ∧ t = { s with
          result := t.result, resultNonce := t.resultNonce, attempts := t.attempts
          digestOut := t.digestOut, elapsed := Config.freeWord s.engineIndex s.draws, draws := s.draws + 2
          done := true, pend := none }
      ∧ t.result ≠ .none
      ∧ (t.foundOut = true ↔ t.result = .found)

/-- R111: the result registers of each outcome. -/
def Obligations.SearchResultRegistersOfEachOutcome : Prop :=
  ∀ (s t : State) (p : Pending) (k : BitVec 7) (f : Suffix), s.ready (.search k f) p →
    exec (.search k f) s = .next t →
    (t.result = .found ∧ p.nonceStart.toNat ≤ t.resultNonce.toNat
        ∧ t.attempts.toNat = t.resultNonce.toNat - p.nonceStart.toNat + 1
        ∧ t.digestOut = digestWords (s.candidate f t.resultNonce)
        ∧ t.statusExact.extractLsb' 4 2 = 1#2
      ∨ t.result = .notFound ∧ t.resultNonce = 0xFFFFFFFF
        ∧ t.attempts.toNat = p.maxNonce.toNat - p.nonceStart.toNat
        ∧ t.digestOut = Vector.replicate 8 0 ∧ t.statusExact.extractLsb' 4 2 = 2#2
      ∨ t.result = .cancelled ∧ t.resultNonce = 0xFFFFFFFF
        ∧ t.attempts.toNat < p.maxNonce.toNat - p.nonceStart.toNat
        ∧ t.digestOut = Vector.replicate 8 0 ∧ t.statusExact.extractLsb' 4 2 = 3#2)
    ∧ ∃ n, t.elapsed = Config.freeWord s.engineIndex n

/-- R112: FOUND reports the smallest nonce of the range, NOTFOUND that there is none, CANCELLED(a) that there is
none among the first a. -/
def Obligations.SearchOutcomesAreMinimal : Prop :=
  ∀ (s t : State) (p : Pending) (k : BitVec 7) (f : Suffix), s.ready (.search k f) p →
    exec (.search k f) s = .next t →
    (t.result = .found →
      p.nonceStart.toNat ≤ t.resultNonce.toNat ∧ t.resultNonce.toNat < p.maxNonce.toNat
      ∧ prefixZero (s.candidate f t.resultNonce) k.toNat = true
      ∧ ∀ n : Word32, p.nonceStart.toNat ≤ n.toNat → n.toNat < t.resultNonce.toNat →
          prefixZero (s.candidate f n) k.toNat = false)
    ∧ (t.result = .notFound →
      ∀ n : Word32, p.nonceStart.toNat ≤ n.toNat → n.toNat < p.maxNonce.toNat →
        prefixZero (s.candidate f n) k.toNat = false)
    ∧ (t.result = .cancelled →
      ∀ n : Word32, p.nonceStart.toNat ≤ n.toNat → n.toNat < p.nonceStart.toNat + t.attempts.toNat →
        prefixZero (s.candidate f n) k.toNat = false)

/-- Derived from 43_search_commands.md R113: with no cancel request the outcome is the uncancelled one, which is
never CANCELLED; with one it is that outcome or CANCELLED(c) for a c below its attempts, so that an empty range
is never cancelled. The two runs compared are given the same draws (log entry 2). -/
def Obligations.CancellationOutcomes : Prop :=
  ∀ (s u : State) (p : Pending) (k : BitVec 7) (f : Suffix), s.ready (.search k f) p → s.cancelReq = false →
    exec (.search k f) s = .next u →
    u.result ≠ .cancelled
    ∧ ∃ t, exec (.search k f) { s with cancelReq := true } = .next t
      ∧ (t = { u with cancelReq := true }
        ∨ t.result = .cancelled ∧ t.attempts.toNat < u.attempts.toNat
          ∧ t = { u with
              cancelReq := true, result := .cancelled, resultNonce := 0xFFFFFFFF
              attempts := t.attempts, digestOut := Vector.replicate 8 0 })

/-- Derived from 43_search_commands.md R113 and 60_exceptions.md R127: a level of 1 on `cancel_in` sets CANCEL_REQ
while a SEARCH is pending and at no other time, and changes nothing else. -/
def Obligations.CancelInputReachesAPendingSearch : Prop :=
  ∀ (s : State) (level : Bool) (rest : List Event), s.schedule = .platformCancelIn level :: rest →
    ∃ t, step s = .next t
      ∧ t = { s with schedule := rest, cancelIn := level, cancelReq := t.cancelReq }
      ∧ (t.cancelReq = true ↔ s.cancelReq = true
          ∨ (level = true ∧ ∃ p, s.pend = some p ∧ p.word.extractLsb' 24 8 = 0x06#8))

/-- Derived from 43_search_commands.md R109 and R110: the corner cases of the range and of K. -/
def Obligations.SearchCornerCases : Prop :=
  ∀ (s t : State) (p : Pending) (k : BitVec 7) (f : Suffix), s.ready (.search k f) p → s.cancelReq = false →
    exec (.search k f) s = .next t →
    (p.maxNonce.toNat ≤ p.nonceStart.toNat → t.result = .notFound ∧ t.attempts = 0)
    ∧ (k = 0 → p.nonceStart.toNat < p.maxNonce.toNat →
        t.result = .found ∧ t.resultNonce = p.nonceStart ∧ t.attempts = 1)
    ∧ (65 ≤ k.toNat → p.nonceStart.toNat < p.maxNonce.toNat →
        t.result = .notFound ∧ t.attempts.toNat = p.maxNonce.toNat - p.nonceStart.toNat)

/-- Derived from 43_search_commands.md R106 and R115: VERIFY completes, derives the candidate of the latched nonce
again, and MATCH says whether its words are the latched EXPECT. -/
def Obligations.VerifyComparesTheCandidate : Prop :=
  ∀ (s : State) (p : Pending) (f : Suffix), s.ready (.verify f) p →
    ∃ d : List Byte, ∃ t,
      d = finalize s.variant s.mode (absorb s.variant s.mode (s.cv, s.buf) (suffixBytes f p.nonceIn))
            (s.len.toNat + (suffixBytes f p.nonceIn).length)
      ∧ exec (.verify f) s = .next t
      ∧ t = { s with
          digestOut := #v[be32 d 0, be32 d 4, be32 d 8, be32 d 12, be32 d 16, be32 d 20, be32 d 24, be32 d 28]
          matched := t.matched
          done := true
          pend := none }
      ∧ (t.matched = true ↔ ∀ i : Fin 8, be32 d (4 * i.val) = p.expect[i])

/-- Derived from 43_search_commands.md R115: VERIFY of the nonce a SEARCH found, with EXPECT the digest it
returned, gives MATCH = 1. -/
def Obligations.VerifyOfAFoundNonceMatches : Prop :=
  ∀ (s t : State) (p q : Pending) (k : BitVec 7) (f : Suffix), s.ready (.search k f) p →
    exec (.search k f) s = .next t → t.result = .found →
    q.nonceIn = t.resultNonce → q.expect = t.digestOut →
    ∃ u, exec (.verify f) { t with pend := some q } = .next u ∧ u.matched = true
      ∧ u.digestOut = t.digestOut

/-- Derived from 43_search_commands.md R106: for a stream started from the variant's initial state, the candidate
of a nonce is the digest of the base bytes with the suffix. -/
def Obligations.CandidateIsTheDigestOfBaseAndSuffix : Prop :=
  ∀ (s : State) (base : List Byte) (f : Suffix) (n : Word32), s.holdsStream base →
    s.candidate f n = digestFrom s.variant s.mode (initChain s.variant) (base ++ suffixBytes f n)

/-! ### 60_exceptions.md and 70_reset_and_hazards.md -/

/-- Derived from 60_exceptions.md R123: the interrupt output is high exactly while an enabled flag is set; after
a completion it follows IE_DONE, after a refused command IE_ERR, and clearing the enables lowers it. -/
def Obligations.InterruptFollowsEnabledFlags : Prop :=
  (∀ s : State, s.irq = true ↔ (s.done = true ∧ s.ieDone = true) ∨ (s.err = true ∧ s.ieErr = true))
  ∧ (∀ (i : Instr) (s t : State) (p : Pending), s.ready i p → exec i s = .next t → s.ieDone = true →
    t.irq = true)
  ∧ (∀ s t : State, s.refusesCommand → step s = .next t → s.ieErr = true → t.irq = true)
  ∧ ∀ (s t : State) (v : Word32), s.writes 0x04 v → v.getLsbD 0 = false → v.getLsbD 1 = false →
      step s = .next t → t.irq = false ∧ t.done = s.done ∧ t.err = s.err

/-- R128: `found_out` equals RESULT = 1; it rises at the completion of a SEARCH that found a nonce and falls at the
acceptance of SEARCH or VERIFY or at reset. A completion that turns RESULT from 1 to another value is excluded by
the invariant `RecordInv`. -/
def Obligations.FoundOutRisesAndFalls : Prop :=
  (∀ s : State, s.foundOut = true ↔ s.result = .found)
  ∧ ∀ s t : State, s.pendingLegal → s.RecordInv → step s = .next t →
    (s.foundOut = false → t.foundOut = true → ∃ k f, s.completes (.search k f))
    ∧ (s.foundOut = true → (t.foundOut = false ↔
        (∃ i c, s.accepts i c ∧ isSearchOrVerify i) ∨ s.resets))

/-- R132: every piece of state in the reset state and after every step in which the platform drives the reset input,
and what the registers, the outputs and a first DIGEST give then. -/
def Obligations.ResetStateOfTheRule : Prop :=
  ∀ t : State, (t = State.reset ∨ ∃ s : State, s.resets ∧ step s = .next t) →
    t.variant = .standardDigest ∧ t.mode = .standard
    ∧ t.cv = 0x6a09e667bb67ae853c6ef372a54ff53a510e527f9b05688c1f83d9ab5be0cd19#256
    ∧ t.buf = [] ∧ t.len = 0 ∧ t.pend = none ∧ t.cancelReq = false
    ∧ [0x00, 0x04, 0x08, 0x0C, 0x10, 0x14, 0x18, 0x1C, 0x20, 0x24, 0x28, 0x2C, 0x30, 0x34, 0x38, 0x3C].map
        (fun o => (regAt o).map t.readValue)
      = some 0x534D4801 :: some 0 :: some 0 :: some 2 :: List.replicate 12 (some 0)
    ∧ (∀ i < 8, (regAt (0x40 + 4 * i)).map t.readValue = some 0)
    ∧ (∀ i < 8, (regAt (0x60 + 4 * i)).map t.readValue = some 0)
    ∧ t.irq = false ∧ t.foundOut = false
    ∧ ∀ p : Pending, ∃ u, exec .digest { t with pend := some p } = .next u
        ∧ u.digestOut = #v[0xe3b0c442, 0x98fc1c14, 0x9afbf4c8, 0x996fb924,
            0x27ae41e4, 0x649b934c, 0xa495991b, 0x7852b855]

/-- Derived from 70_reset_and_hazards.md R132 and R133: a hardware reset, with a command pending or not, leaves the
reset state. What is kept, namely the level of the platform's input and the model's own fields (the index of the
instance, the value the host holds, the count of draws and the rest of the schedule), is the model's choice (log
entry 14, DESIGN CHOICE). -/
def Obligations.HardwareResetAbandonsThePendingCommand : Prop :=
  ∀ (s : State) (rest : List Event), s.schedule = .platformReset :: rest →
    step s = .next { State.reset with
      cancelIn := s.cancelIn, engineIndex := s.engineIndex, readData := s.readData, draws := s.draws
      schedule := rest }

/-- Derived from 60_exceptions.md R129: a step of one instance leaves every other instance as it was, and moves
that instance as it would move alone; it keeps the instance's index, so that the instance goes on with its own
sequence of draws. After reset there are NUM_ENGINES instances, each under its own index: that the n-th has the
index n is the model's choice, and so is that a fault at one instance gives the system no next state (log entries 6
and 16). -/
def Obligations.InstancesAreIndependent : Prop :=
  (∀ (sys sys' : System) (j : Nat), sys.stepAt j = .next sys' →
    sys'.instances.length = sys.instances.length
    ∧ (∀ i, i ≠ j → sys'.instances[i]? = sys.instances[i]?)
    ∧ ∀ s, sys.instances[j]? = some s →
        ∃ t, step s = .next t ∧ sys'.instances[j]? = some t ∧ t.engineIndex = s.engineIndex)
  ∧ System.reset.instances.length = Config.numEngines
  ∧ ∀ n < Config.numEngines, System.reset.instances[n]? = some { State.reset with engineIndex := n }

/-! ### Invariants -/

/-- Derived from 70_reset_and_hazards.md R132: both invariants hold at reset. -/
def Obligations.InvariantsHoldAtReset : Prop := State.reset.StreamInv ∧ State.reset.RecordInv

/-- R22: every step keeps the engine state that of the absorbed stream: INIT, RESET and a hardware reset start an
empty stream, UPD1 and UPDN append the bytes they absorb, and every other step leaves the stream as it was. -/
def Obligations.StepKeepsTheStreamInvariant : Prop :=
  ∀ s t : State, s.StreamInv → step s = .next t → t.StreamInv
    ∧ ∀ stream : List Byte, s.holdsStream stream →
      (((∃ m v, s.completes (.init m v)) ∨ s.completes .reset ∨ s.resets) → t.holdsStream [])
      ∧ (∀ b, s.completes (.upd1 b) → t.holdsStream (stream ++ [b]))
      ∧ (∀ n p, s.completes (.updn n) → s.pend = some p →
          t.holdsStream (stream ++ [p.dataIn.extractLsb' 24 8, p.dataIn.extractLsb' 16 8,
            p.dataIn.extractLsb' 8 8, p.dataIn.extractLsb' 0 8].take n.toNat))
      ∧ (¬ s.resets → (∀ i, s.completes i → i = .digest ∨ isSearchOrVerify i) → t.holdsStream stream)

/-- Derived from 10_state.md R28, R35 and R43 and 60_exceptions.md R118 and R127: every step keeps the error
record, the cancel request, the sentinel of RESULT_NONCE and the lifetime of MATCH and RESULT as those rules
say. -/
def Obligations.StepKeepsTheRecordInvariant : Prop :=
  ∀ s t : State, s.RecordInv → step s = .next t → t.RecordInv
end

