-- ==== Sys2Proof/Laws/State.lean ====
section
/-! SUPPORT. One lemma per field per update of State, each true by definition, so that no later proof unfolds
an update. -/

namespace Sys2Proof.Machine

/-! ### raiseErr -/

@[simp] theorem State.raiseErr_variant (s : State) (code : ErrCode) :
    (s.raiseErr code).variant = s.variant := rfl
@[simp] theorem State.raiseErr_mode (s : State) (code : ErrCode) :
    (s.raiseErr code).mode = s.mode := rfl
@[simp] theorem State.raiseErr_cv (s : State) (code : ErrCode) :
    (s.raiseErr code).cv = s.cv := rfl
@[simp] theorem State.raiseErr_buf (s : State) (code : ErrCode) :
    (s.raiseErr code).buf = s.buf := rfl
@[simp] theorem State.raiseErr_len (s : State) (code : ErrCode) :
    (s.raiseErr code).len = s.len := rfl
@[simp] theorem State.raiseErr_pend (s : State) (code : ErrCode) :
    (s.raiseErr code).pend = s.pend := rfl
@[simp] theorem State.raiseErr_cancelReq (s : State) (code : ErrCode) :
    (s.raiseErr code).cancelReq = s.cancelReq := rfl
@[simp] theorem State.raiseErr_ieDone (s : State) (code : ErrCode) :
    (s.raiseErr code).ieDone = s.ieDone := rfl
@[simp] theorem State.raiseErr_ieErr (s : State) (code : ErrCode) :
    (s.raiseErr code).ieErr = s.ieErr := rfl
@[simp] theorem State.raiseErr_done (s : State) (code : ErrCode) :
    (s.raiseErr code).done = s.done := rfl
@[simp] theorem State.raiseErr_err (s : State) (code : ErrCode) :
    (s.raiseErr code).err = true := rfl
@[simp] theorem State.raiseErr_matched (s : State) (code : ErrCode) :
    (s.raiseErr code).matched = s.matched := rfl
@[simp] theorem State.raiseErr_result (s : State) (code : ErrCode) :
    (s.raiseErr code).result = s.result := rfl
@[simp] theorem State.raiseErr_errCode (s : State) (code : ErrCode) :
    (s.raiseErr code).errCode = if s.err then s.errCode else code := rfl
@[simp] theorem State.raiseErr_dataIn (s : State) (code : ErrCode) :
    (s.raiseErr code).dataIn = s.dataIn := rfl
@[simp] theorem State.raiseErr_nonceStart (s : State) (code : ErrCode) :
    (s.raiseErr code).nonceStart = s.nonceStart := rfl
@[simp] theorem State.raiseErr_maxNonce (s : State) (code : ErrCode) :
    (s.raiseErr code).maxNonce = s.maxNonce := rfl
@[simp] theorem State.raiseErr_nonceIn (s : State) (code : ErrCode) :
    (s.raiseErr code).nonceIn = s.nonceIn := rfl
@[simp] theorem State.raiseErr_resultNonce (s : State) (code : ErrCode) :
    (s.raiseErr code).resultNonce = s.resultNonce := rfl
@[simp] theorem State.raiseErr_attempts (s : State) (code : ErrCode) :
    (s.raiseErr code).attempts = s.attempts := rfl
@[simp] theorem State.raiseErr_elapsed (s : State) (code : ErrCode) :
    (s.raiseErr code).elapsed = s.elapsed := rfl
@[simp] theorem State.raiseErr_digestOut (s : State) (code : ErrCode) :
    (s.raiseErr code).digestOut = s.digestOut := rfl
@[simp] theorem State.raiseErr_expect (s : State) (code : ErrCode) :
    (s.raiseErr code).expect = s.expect := rfl
@[simp] theorem State.raiseErr_cancelIn (s : State) (code : ErrCode) :
    (s.raiseErr code).cancelIn = s.cancelIn := rfl
@[simp] theorem State.raiseErr_engineIndex (s : State) (code : ErrCode) :
    (s.raiseErr code).engineIndex = s.engineIndex := rfl
@[simp] theorem State.raiseErr_readData (s : State) (code : ErrCode) :
    (s.raiseErr code).readData = s.readData := rfl
@[simp] theorem State.raiseErr_draws (s : State) (code : ErrCode) :
    (s.raiseErr code).draws = s.draws := rfl
@[simp] theorem State.raiseErr_schedule (s : State) (code : ErrCode) :
    (s.raiseErr code).schedule = s.schedule := rfl

/-! ### dropCommand -/

@[simp] theorem State.dropCommand_variant (s : State) (code : ErrCode) :
    (s.dropCommand code).variant = s.variant := rfl
@[simp] theorem State.dropCommand_mode (s : State) (code : ErrCode) :
    (s.dropCommand code).mode = s.mode := rfl
@[simp] theorem State.dropCommand_cv (s : State) (code : ErrCode) :
    (s.dropCommand code).cv = s.cv := rfl
@[simp] theorem State.dropCommand_buf (s : State) (code : ErrCode) :
    (s.dropCommand code).buf = s.buf := rfl
@[simp] theorem State.dropCommand_len (s : State) (code : ErrCode) :
    (s.dropCommand code).len = s.len := rfl
@[simp] theorem State.dropCommand_pend (s : State) (code : ErrCode) :
    (s.dropCommand code).pend = none := rfl
@[simp] theorem State.dropCommand_cancelReq (s : State) (code : ErrCode) :
    (s.dropCommand code).cancelReq = s.cancelReq := rfl
@[simp] theorem State.dropCommand_ieDone (s : State) (code : ErrCode) :
    (s.dropCommand code).ieDone = s.ieDone := rfl
@[simp] theorem State.dropCommand_ieErr (s : State) (code : ErrCode) :
    (s.dropCommand code).ieErr = s.ieErr := rfl
@[simp] theorem State.dropCommand_done (s : State) (code : ErrCode) :
    (s.dropCommand code).done = s.done := rfl
@[simp] theorem State.dropCommand_err (s : State) (code : ErrCode) :
    (s.dropCommand code).err = true := rfl
@[simp] theorem State.dropCommand_matched (s : State) (code : ErrCode) :
    (s.dropCommand code).matched = s.matched := rfl
@[simp] theorem State.dropCommand_result (s : State) (code : ErrCode) :
    (s.dropCommand code).result = s.result := rfl
@[simp] theorem State.dropCommand_errCode (s : State) (code : ErrCode) :
    (s.dropCommand code).errCode = if s.err then s.errCode else code := rfl
@[simp] theorem State.dropCommand_dataIn (s : State) (code : ErrCode) :
    (s.dropCommand code).dataIn = s.dataIn := rfl
@[simp] theorem State.dropCommand_nonceStart (s : State) (code : ErrCode) :
    (s.dropCommand code).nonceStart = s.nonceStart := rfl
@[simp] theorem State.dropCommand_maxNonce (s : State) (code : ErrCode) :
    (s.dropCommand code).maxNonce = s.maxNonce := rfl
@[simp] theorem State.dropCommand_nonceIn (s : State) (code : ErrCode) :
    (s.dropCommand code).nonceIn = s.nonceIn := rfl
@[simp] theorem State.dropCommand_resultNonce (s : State) (code : ErrCode) :
    (s.dropCommand code).resultNonce = s.resultNonce := rfl
@[simp] theorem State.dropCommand_attempts (s : State) (code : ErrCode) :
    (s.dropCommand code).attempts = s.attempts := rfl
@[simp] theorem State.dropCommand_elapsed (s : State) (code : ErrCode) :
    (s.dropCommand code).elapsed = s.elapsed := rfl
@[simp] theorem State.dropCommand_digestOut (s : State) (code : ErrCode) :
    (s.dropCommand code).digestOut = s.digestOut := rfl
@[simp] theorem State.dropCommand_expect (s : State) (code : ErrCode) :
    (s.dropCommand code).expect = s.expect := rfl
@[simp] theorem State.dropCommand_cancelIn (s : State) (code : ErrCode) :
    (s.dropCommand code).cancelIn = s.cancelIn := rfl
@[simp] theorem State.dropCommand_engineIndex (s : State) (code : ErrCode) :
    (s.dropCommand code).engineIndex = s.engineIndex := rfl
@[simp] theorem State.dropCommand_readData (s : State) (code : ErrCode) :
    (s.dropCommand code).readData = s.readData := rfl
@[simp] theorem State.dropCommand_draws (s : State) (code : ErrCode) :
    (s.dropCommand code).draws = s.draws := rfl
@[simp] theorem State.dropCommand_schedule (s : State) (code : ErrCode) :
    (s.dropCommand code).schedule = s.schedule := rfl

/-! ### clearStatus -/

@[simp] theorem State.clearStatus_variant (s : State) (v : Word32) :
    (s.clearStatus v).variant = s.variant := rfl
@[simp] theorem State.clearStatus_mode (s : State) (v : Word32) :
    (s.clearStatus v).mode = s.mode := rfl
@[simp] theorem State.clearStatus_cv (s : State) (v : Word32) :
    (s.clearStatus v).cv = s.cv := rfl
@[simp] theorem State.clearStatus_buf (s : State) (v : Word32) :
    (s.clearStatus v).buf = s.buf := rfl
@[simp] theorem State.clearStatus_len (s : State) (v : Word32) :
    (s.clearStatus v).len = s.len := rfl
@[simp] theorem State.clearStatus_pend (s : State) (v : Word32) :
    (s.clearStatus v).pend = s.pend := rfl
@[simp] theorem State.clearStatus_cancelReq (s : State) (v : Word32) :
    (s.clearStatus v).cancelReq = s.cancelReq := rfl
@[simp] theorem State.clearStatus_ieDone (s : State) (v : Word32) :
    (s.clearStatus v).ieDone = s.ieDone := rfl
@[simp] theorem State.clearStatus_ieErr (s : State) (v : Word32) :
    (s.clearStatus v).ieErr = s.ieErr := rfl
@[simp] theorem State.clearStatus_done (s : State) (v : Word32) :
    (s.clearStatus v).done = (s.done && !v.getLsbD 1) := rfl
@[simp] theorem State.clearStatus_err (s : State) (v : Word32) :
    (s.clearStatus v).err = (s.err && !v.getLsbD 2) := rfl
@[simp] theorem State.clearStatus_matched (s : State) (v : Word32) :
    (s.clearStatus v).matched = s.matched := rfl
@[simp] theorem State.clearStatus_result (s : State) (v : Word32) :
    (s.clearStatus v).result = s.result := rfl
@[simp] theorem State.clearStatus_errCode (s : State) (v : Word32) :
    (s.clearStatus v).errCode = if v.getLsbD 2 then .none else s.errCode := rfl
@[simp] theorem State.clearStatus_dataIn (s : State) (v : Word32) :
    (s.clearStatus v).dataIn = s.dataIn := rfl
@[simp] theorem State.clearStatus_nonceStart (s : State) (v : Word32) :
    (s.clearStatus v).nonceStart = s.nonceStart := rfl
@[simp] theorem State.clearStatus_maxNonce (s : State) (v : Word32) :
    (s.clearStatus v).maxNonce = s.maxNonce := rfl
@[simp] theorem State.clearStatus_nonceIn (s : State) (v : Word32) :
    (s.clearStatus v).nonceIn = s.nonceIn := rfl
@[simp] theorem State.clearStatus_resultNonce (s : State) (v : Word32) :
    (s.clearStatus v).resultNonce = s.resultNonce := rfl
@[simp] theorem State.clearStatus_attempts (s : State) (v : Word32) :
    (s.clearStatus v).attempts = s.attempts := rfl
@[simp] theorem State.clearStatus_elapsed (s : State) (v : Word32) :
    (s.clearStatus v).elapsed = s.elapsed := rfl
@[simp] theorem State.clearStatus_digestOut (s : State) (v : Word32) :
    (s.clearStatus v).digestOut = s.digestOut := rfl
@[simp] theorem State.clearStatus_expect (s : State) (v : Word32) :
    (s.clearStatus v).expect = s.expect := rfl
@[simp] theorem State.clearStatus_cancelIn (s : State) (v : Word32) :
    (s.clearStatus v).cancelIn = s.cancelIn := rfl
@[simp] theorem State.clearStatus_engineIndex (s : State) (v : Word32) :
    (s.clearStatus v).engineIndex = s.engineIndex := rfl
@[simp] theorem State.clearStatus_readData (s : State) (v : Word32) :
    (s.clearStatus v).readData = s.readData := rfl
@[simp] theorem State.clearStatus_draws (s : State) (v : Word32) :
    (s.clearStatus v).draws = s.draws := rfl
@[simp] theorem State.clearStatus_schedule (s : State) (v : Word32) :
    (s.clearStatus v).schedule = s.schedule := rfl

/-! ### setEnables -/

@[simp] theorem State.setEnables_variant (s : State) (v : Word32) :
    (s.setEnables v).variant = s.variant := rfl
@[simp] theorem State.setEnables_mode (s : State) (v : Word32) :
    (s.setEnables v).mode = s.mode := rfl
@[simp] theorem State.setEnables_cv (s : State) (v : Word32) :
    (s.setEnables v).cv = s.cv := rfl
@[simp] theorem State.setEnables_buf (s : State) (v : Word32) :
    (s.setEnables v).buf = s.buf := rfl
@[simp] theorem State.setEnables_len (s : State) (v : Word32) :
    (s.setEnables v).len = s.len := rfl
@[simp] theorem State.setEnables_pend (s : State) (v : Word32) :
    (s.setEnables v).pend = s.pend := rfl
@[simp] theorem State.setEnables_cancelReq (s : State) (v : Word32) :
    (s.setEnables v).cancelReq = s.cancelReq := rfl
@[simp] theorem State.setEnables_ieDone (s : State) (v : Word32) :
    (s.setEnables v).ieDone = v.getLsbD 0 := rfl
@[simp] theorem State.setEnables_ieErr (s : State) (v : Word32) :
    (s.setEnables v).ieErr = v.getLsbD 1 := rfl
@[simp] theorem State.setEnables_done (s : State) (v : Word32) :
    (s.setEnables v).done = s.done := rfl
@[simp] theorem State.setEnables_err (s : State) (v : Word32) :
    (s.setEnables v).err = s.err := rfl
@[simp] theorem State.setEnables_matched (s : State) (v : Word32) :
    (s.setEnables v).matched = s.matched := rfl
@[simp] theorem State.setEnables_result (s : State) (v : Word32) :
    (s.setEnables v).result = s.result := rfl
@[simp] theorem State.setEnables_errCode (s : State) (v : Word32) :
    (s.setEnables v).errCode = s.errCode := rfl
@[simp] theorem State.setEnables_dataIn (s : State) (v : Word32) :
    (s.setEnables v).dataIn = s.dataIn := rfl
@[simp] theorem State.setEnables_nonceStart (s : State) (v : Word32) :
    (s.setEnables v).nonceStart = s.nonceStart := rfl
@[simp] theorem State.setEnables_maxNonce (s : State) (v : Word32) :
    (s.setEnables v).maxNonce = s.maxNonce := rfl
@[simp] theorem State.setEnables_nonceIn (s : State) (v : Word32) :
    (s.setEnables v).nonceIn = s.nonceIn := rfl
@[simp] theorem State.setEnables_resultNonce (s : State) (v : Word32) :
    (s.setEnables v).resultNonce = s.resultNonce := rfl
@[simp] theorem State.setEnables_attempts (s : State) (v : Word32) :
    (s.setEnables v).attempts = s.attempts := rfl
@[simp] theorem State.setEnables_elapsed (s : State) (v : Word32) :
    (s.setEnables v).elapsed = s.elapsed := rfl
@[simp] theorem State.setEnables_digestOut (s : State) (v : Word32) :
    (s.setEnables v).digestOut = s.digestOut := rfl
@[simp] theorem State.setEnables_expect (s : State) (v : Word32) :
    (s.setEnables v).expect = s.expect := rfl
@[simp] theorem State.setEnables_cancelIn (s : State) (v : Word32) :
    (s.setEnables v).cancelIn = s.cancelIn := rfl
@[simp] theorem State.setEnables_engineIndex (s : State) (v : Word32) :
    (s.setEnables v).engineIndex = s.engineIndex := rfl
@[simp] theorem State.setEnables_readData (s : State) (v : Word32) :
    (s.setEnables v).readData = s.readData := rfl
@[simp] theorem State.setEnables_draws (s : State) (v : Word32) :
    (s.setEnables v).draws = s.draws := rfl
@[simp] theorem State.setEnables_schedule (s : State) (v : Word32) :
    (s.setEnables v).schedule = s.schedule := rfl

/-! ### absorbBytes -/

@[simp] theorem State.absorbBytes_variant (s : State) (m : List Byte) :
    (s.absorbBytes m).variant = s.variant := rfl
@[simp] theorem State.absorbBytes_mode (s : State) (m : List Byte) :
    (s.absorbBytes m).mode = s.mode := rfl
@[simp] theorem State.absorbBytes_cv (s : State) (m : List Byte) :
    (s.absorbBytes m).cv = (absorb s.variant s.mode (s.cv, s.buf) m).1 := rfl
@[simp] theorem State.absorbBytes_buf (s : State) (m : List Byte) :
    (s.absorbBytes m).buf = (absorb s.variant s.mode (s.cv, s.buf) m).2 := rfl
@[simp] theorem State.absorbBytes_len (s : State) (m : List Byte) :
    (s.absorbBytes m).len = s.len + BitVec.ofNat 61 m.length := rfl
@[simp] theorem State.absorbBytes_pend (s : State) (m : List Byte) :
    (s.absorbBytes m).pend = s.pend := rfl
@[simp] theorem State.absorbBytes_cancelReq (s : State) (m : List Byte) :
    (s.absorbBytes m).cancelReq = s.cancelReq := rfl
@[simp] theorem State.absorbBytes_ieDone (s : State) (m : List Byte) :
    (s.absorbBytes m).ieDone = s.ieDone := rfl
@[simp] theorem State.absorbBytes_ieErr (s : State) (m : List Byte) :
    (s.absorbBytes m).ieErr = s.ieErr := rfl
@[simp] theorem State.absorbBytes_done (s : State) (m : List Byte) :
    (s.absorbBytes m).done = s.done := rfl
@[simp] theorem State.absorbBytes_err (s : State) (m : List Byte) :
    (s.absorbBytes m).err = s.err := rfl
@[simp] theorem State.absorbBytes_matched (s : State) (m : List Byte) :
    (s.absorbBytes m).matched = s.matched := rfl
@[simp] theorem State.absorbBytes_result (s : State) (m : List Byte) :
    (s.absorbBytes m).result = s.result := rfl
@[simp] theorem State.absorbBytes_errCode (s : State) (m : List Byte) :
    (s.absorbBytes m).errCode = s.errCode := rfl
@[simp] theorem State.absorbBytes_dataIn (s : State) (m : List Byte) :
    (s.absorbBytes m).dataIn = s.dataIn := rfl
@[simp] theorem State.absorbBytes_nonceStart (s : State) (m : List Byte) :
    (s.absorbBytes m).nonceStart = s.nonceStart := rfl
@[simp] theorem State.absorbBytes_maxNonce (s : State) (m : List Byte) :
    (s.absorbBytes m).maxNonce = s.maxNonce := rfl
@[simp] theorem State.absorbBytes_nonceIn (s : State) (m : List Byte) :
    (s.absorbBytes m).nonceIn = s.nonceIn := rfl
@[simp] theorem State.absorbBytes_resultNonce (s : State) (m : List Byte) :
    (s.absorbBytes m).resultNonce = s.resultNonce := rfl
@[simp] theorem State.absorbBytes_attempts (s : State) (m : List Byte) :
    (s.absorbBytes m).attempts = s.attempts := rfl
@[simp] theorem State.absorbBytes_elapsed (s : State) (m : List Byte) :
    (s.absorbBytes m).elapsed = s.elapsed := rfl
@[simp] theorem State.absorbBytes_digestOut (s : State) (m : List Byte) :
    (s.absorbBytes m).digestOut = s.digestOut := rfl
@[simp] theorem State.absorbBytes_expect (s : State) (m : List Byte) :
    (s.absorbBytes m).expect = s.expect := rfl
@[simp] theorem State.absorbBytes_cancelIn (s : State) (m : List Byte) :
    (s.absorbBytes m).cancelIn = s.cancelIn := rfl
@[simp] theorem State.absorbBytes_engineIndex (s : State) (m : List Byte) :
    (s.absorbBytes m).engineIndex = s.engineIndex := rfl
@[simp] theorem State.absorbBytes_readData (s : State) (m : List Byte) :
    (s.absorbBytes m).readData = s.readData := rfl
@[simp] theorem State.absorbBytes_draws (s : State) (m : List Byte) :
    (s.absorbBytes m).draws = s.draws := rfl
@[simp] theorem State.absorbBytes_schedule (s : State) (m : List Byte) :
    (s.absorbBytes m).schedule = s.schedule := rfl

/-! ### restartStream -/

@[simp] theorem State.restartStream_variant (s : State) :
    s.restartStream.variant = s.variant := rfl
@[simp] theorem State.restartStream_mode (s : State) :
    s.restartStream.mode = s.mode := rfl
@[simp] theorem State.restartStream_cv (s : State) :
    s.restartStream.cv = initChain s.variant := rfl
@[simp] theorem State.restartStream_buf (s : State) :
    s.restartStream.buf = [] := rfl
@[simp] theorem State.restartStream_len (s : State) :
    s.restartStream.len = 0 := rfl
@[simp] theorem State.restartStream_pend (s : State) :
    s.restartStream.pend = s.pend := rfl
@[simp] theorem State.restartStream_cancelReq (s : State) :
    s.restartStream.cancelReq = s.cancelReq := rfl
@[simp] theorem State.restartStream_ieDone (s : State) :
    s.restartStream.ieDone = s.ieDone := rfl
@[simp] theorem State.restartStream_ieErr (s : State) :
    s.restartStream.ieErr = s.ieErr := rfl
@[simp] theorem State.restartStream_done (s : State) :
    s.restartStream.done = s.done := rfl
@[simp] theorem State.restartStream_err (s : State) :
    s.restartStream.err = s.err := rfl
@[simp] theorem State.restartStream_matched (s : State) :
    s.restartStream.matched = s.matched := rfl
@[simp] theorem State.restartStream_result (s : State) :
    s.restartStream.result = s.result := rfl
@[simp] theorem State.restartStream_errCode (s : State) :
    s.restartStream.errCode = s.errCode := rfl
@[simp] theorem State.restartStream_dataIn (s : State) :
    s.restartStream.dataIn = s.dataIn := rfl
@[simp] theorem State.restartStream_nonceStart (s : State) :
    s.restartStream.nonceStart = s.nonceStart := rfl
@[simp] theorem State.restartStream_maxNonce (s : State) :
    s.restartStream.maxNonce = s.maxNonce := rfl
@[simp] theorem State.restartStream_nonceIn (s : State) :
    s.restartStream.nonceIn = s.nonceIn := rfl
@[simp] theorem State.restartStream_resultNonce (s : State) :
    s.restartStream.resultNonce = s.resultNonce := rfl
@[simp] theorem State.restartStream_attempts (s : State) :
    s.restartStream.attempts = s.attempts := rfl
@[simp] theorem State.restartStream_elapsed (s : State) :
    s.restartStream.elapsed = s.elapsed := rfl
@[simp] theorem State.restartStream_digestOut (s : State) :
    s.restartStream.digestOut = s.digestOut := rfl
@[simp] theorem State.restartStream_expect (s : State) :
    s.restartStream.expect = s.expect := rfl
@[simp] theorem State.restartStream_cancelIn (s : State) :
    s.restartStream.cancelIn = s.cancelIn := rfl
@[simp] theorem State.restartStream_engineIndex (s : State) :
    s.restartStream.engineIndex = s.engineIndex := rfl
@[simp] theorem State.restartStream_readData (s : State) :
    s.restartStream.readData = s.readData := rfl
@[simp] theorem State.restartStream_draws (s : State) :
    s.restartStream.draws = s.draws := rfl
@[simp] theorem State.restartStream_schedule (s : State) :
    s.restartStream.schedule = s.schedule := rfl

/-! ### latchCommand -/

@[simp] theorem State.latchCommand_variant (s : State) (i : Instr) (c : Word32) :
    (s.latchCommand i c).variant = s.variant := rfl
@[simp] theorem State.latchCommand_mode (s : State) (i : Instr) (c : Word32) :
    (s.latchCommand i c).mode = s.mode := rfl
@[simp] theorem State.latchCommand_cv (s : State) (i : Instr) (c : Word32) :
    (s.latchCommand i c).cv = s.cv := rfl
@[simp] theorem State.latchCommand_buf (s : State) (i : Instr) (c : Word32) :
    (s.latchCommand i c).buf = s.buf := rfl
@[simp] theorem State.latchCommand_len (s : State) (i : Instr) (c : Word32) :
    (s.latchCommand i c).len = s.len := rfl
@[simp] theorem State.latchCommand_pend (s : State) (i : Instr) (c : Word32) :
    (s.latchCommand i c).pend = some (s.latched c) := rfl
@[simp] theorem State.latchCommand_cancelReq (s : State) (i : Instr) (c : Word32) :
    (s.latchCommand i c).cancelReq = s.cancelIn := rfl
@[simp] theorem State.latchCommand_ieDone (s : State) (i : Instr) (c : Word32) :
    (s.latchCommand i c).ieDone = s.ieDone := rfl
@[simp] theorem State.latchCommand_ieErr (s : State) (i : Instr) (c : Word32) :
    (s.latchCommand i c).ieErr = s.ieErr := rfl
@[simp] theorem State.latchCommand_done (s : State) (i : Instr) (c : Word32) :
    (s.latchCommand i c).done = s.done := rfl
@[simp] theorem State.latchCommand_err (s : State) (i : Instr) (c : Word32) :
    (s.latchCommand i c).err = s.err := rfl
@[simp] theorem State.latchCommand_matched (s : State) (i : Instr) (c : Word32) :
    (s.latchCommand i c).matched = if clearsOutcome i then false else s.matched := rfl
@[simp] theorem State.latchCommand_result (s : State) (i : Instr) (c : Word32) :
    (s.latchCommand i c).result = if clearsOutcome i then .none else s.result := rfl
@[simp] theorem State.latchCommand_errCode (s : State) (i : Instr) (c : Word32) :
    (s.latchCommand i c).errCode = s.errCode := rfl
@[simp] theorem State.latchCommand_dataIn (s : State) (i : Instr) (c : Word32) :
    (s.latchCommand i c).dataIn = s.dataIn := rfl
@[simp] theorem State.latchCommand_nonceStart (s : State) (i : Instr) (c : Word32) :
    (s.latchCommand i c).nonceStart = s.nonceStart := rfl
@[simp] theorem State.latchCommand_maxNonce (s : State) (i : Instr) (c : Word32) :
    (s.latchCommand i c).maxNonce = s.maxNonce := rfl
@[simp] theorem State.latchCommand_nonceIn (s : State) (i : Instr) (c : Word32) :
    (s.latchCommand i c).nonceIn = s.nonceIn := rfl
@[simp] theorem State.latchCommand_resultNonce (s : State) (i : Instr) (c : Word32) :
    (s.latchCommand i c).resultNonce = s.resultNonce := rfl
@[simp] theorem State.latchCommand_attempts (s : State) (i : Instr) (c : Word32) :
    (s.latchCommand i c).attempts = s.attempts := rfl
@[simp] theorem State.latchCommand_elapsed (s : State) (i : Instr) (c : Word32) :
    (s.latchCommand i c).elapsed = s.elapsed := rfl
@[simp] theorem State.latchCommand_digestOut (s : State) (i : Instr) (c : Word32) :
    (s.latchCommand i c).digestOut = s.digestOut := rfl
@[simp] theorem State.latchCommand_expect (s : State) (i : Instr) (c : Word32) :
    (s.latchCommand i c).expect = s.expect := rfl
@[simp] theorem State.latchCommand_cancelIn (s : State) (i : Instr) (c : Word32) :
    (s.latchCommand i c).cancelIn = s.cancelIn := rfl
@[simp] theorem State.latchCommand_engineIndex (s : State) (i : Instr) (c : Word32) :
    (s.latchCommand i c).engineIndex = s.engineIndex := rfl
@[simp] theorem State.latchCommand_readData (s : State) (i : Instr) (c : Word32) :
    (s.latchCommand i c).readData = s.readData := rfl
@[simp] theorem State.latchCommand_draws (s : State) (i : Instr) (c : Word32) :
    (s.latchCommand i c).draws = s.draws := rfl
@[simp] theorem State.latchCommand_schedule (s : State) (i : Instr) (c : Word32) :
    (s.latchCommand i c).schedule = s.schedule := rfl

/-! ### finish -/

@[simp] theorem State.finish_variant (s : State) :
    s.finish.variant = s.variant := rfl
@[simp] theorem State.finish_mode (s : State) :
    s.finish.mode = s.mode := rfl
@[simp] theorem State.finish_cv (s : State) :
    s.finish.cv = s.cv := rfl
@[simp] theorem State.finish_buf (s : State) :
    s.finish.buf = s.buf := rfl
@[simp] theorem State.finish_len (s : State) :
    s.finish.len = s.len := rfl
@[simp] theorem State.finish_pend (s : State) :
    s.finish.pend = none := rfl
@[simp] theorem State.finish_cancelReq (s : State) :
    s.finish.cancelReq = s.cancelReq := rfl
@[simp] theorem State.finish_ieDone (s : State) :
    s.finish.ieDone = s.ieDone := rfl
@[simp] theorem State.finish_ieErr (s : State) :
    s.finish.ieErr = s.ieErr := rfl
@[simp] theorem State.finish_done (s : State) :
    s.finish.done = true := rfl
@[simp] theorem State.finish_err (s : State) :
    s.finish.err = s.err := rfl
@[simp] theorem State.finish_matched (s : State) :
    s.finish.matched = s.matched := rfl
@[simp] theorem State.finish_result (s : State) :
    s.finish.result = s.result := rfl
@[simp] theorem State.finish_errCode (s : State) :
    s.finish.errCode = s.errCode := rfl
@[simp] theorem State.finish_dataIn (s : State) :
    s.finish.dataIn = s.dataIn := rfl
@[simp] theorem State.finish_nonceStart (s : State) :
    s.finish.nonceStart = s.nonceStart := rfl
@[simp] theorem State.finish_maxNonce (s : State) :
    s.finish.maxNonce = s.maxNonce := rfl
@[simp] theorem State.finish_nonceIn (s : State) :
    s.finish.nonceIn = s.nonceIn := rfl
@[simp] theorem State.finish_resultNonce (s : State) :
    s.finish.resultNonce = s.resultNonce := rfl
@[simp] theorem State.finish_attempts (s : State) :
    s.finish.attempts = s.attempts := rfl
@[simp] theorem State.finish_elapsed (s : State) :
    s.finish.elapsed = s.elapsed := rfl
@[simp] theorem State.finish_digestOut (s : State) :
    s.finish.digestOut = s.digestOut := rfl
@[simp] theorem State.finish_expect (s : State) :
    s.finish.expect = s.expect := rfl
@[simp] theorem State.finish_cancelIn (s : State) :
    s.finish.cancelIn = s.cancelIn := rfl
@[simp] theorem State.finish_engineIndex (s : State) :
    s.finish.engineIndex = s.engineIndex := rfl
@[simp] theorem State.finish_readData (s : State) :
    s.finish.readData = s.readData := rfl
@[simp] theorem State.finish_draws (s : State) :
    s.finish.draws = s.draws := rfl
@[simp] theorem State.finish_schedule (s : State) :
    s.finish.schedule = s.schedule := rfl

/-! ### drawElapsed -/

@[simp] theorem State.drawElapsed_variant (s : State) :
    s.drawElapsed.variant = s.variant := rfl
@[simp] theorem State.drawElapsed_mode (s : State) :
    s.drawElapsed.mode = s.mode := rfl
@[simp] theorem State.drawElapsed_cv (s : State) :
    s.drawElapsed.cv = s.cv := rfl
@[simp] theorem State.drawElapsed_buf (s : State) :
    s.drawElapsed.buf = s.buf := rfl
@[simp] theorem State.drawElapsed_len (s : State) :
    s.drawElapsed.len = s.len := rfl
@[simp] theorem State.drawElapsed_pend (s : State) :
    s.drawElapsed.pend = s.pend := rfl
@[simp] theorem State.drawElapsed_cancelReq (s : State) :
    s.drawElapsed.cancelReq = s.cancelReq := rfl
@[simp] theorem State.drawElapsed_ieDone (s : State) :
    s.drawElapsed.ieDone = s.ieDone := rfl
@[simp] theorem State.drawElapsed_ieErr (s : State) :
    s.drawElapsed.ieErr = s.ieErr := rfl
@[simp] theorem State.drawElapsed_done (s : State) :
    s.drawElapsed.done = s.done := rfl
@[simp] theorem State.drawElapsed_err (s : State) :
    s.drawElapsed.err = s.err := rfl
@[simp] theorem State.drawElapsed_matched (s : State) :
    s.drawElapsed.matched = s.matched := rfl
@[simp] theorem State.drawElapsed_result (s : State) :
    s.drawElapsed.result = s.result := rfl
@[simp] theorem State.drawElapsed_errCode (s : State) :
    s.drawElapsed.errCode = s.errCode := rfl
@[simp] theorem State.drawElapsed_dataIn (s : State) :
    s.drawElapsed.dataIn = s.dataIn := rfl
@[simp] theorem State.drawElapsed_nonceStart (s : State) :
    s.drawElapsed.nonceStart = s.nonceStart := rfl
@[simp] theorem State.drawElapsed_maxNonce (s : State) :
    s.drawElapsed.maxNonce = s.maxNonce := rfl
@[simp] theorem State.drawElapsed_nonceIn (s : State) :
    s.drawElapsed.nonceIn = s.nonceIn := rfl
@[simp] theorem State.drawElapsed_resultNonce (s : State) :
    s.drawElapsed.resultNonce = s.resultNonce := rfl
@[simp] theorem State.drawElapsed_attempts (s : State) :
    s.drawElapsed.attempts = s.attempts := rfl
@[simp] theorem State.drawElapsed_elapsed (s : State) :
    s.drawElapsed.elapsed = s.draw := rfl
@[simp] theorem State.drawElapsed_digestOut (s : State) :
    s.drawElapsed.digestOut = s.digestOut := rfl
@[simp] theorem State.drawElapsed_expect (s : State) :
    s.drawElapsed.expect = s.expect := rfl
@[simp] theorem State.drawElapsed_cancelIn (s : State) :
    s.drawElapsed.cancelIn = s.cancelIn := rfl
@[simp] theorem State.drawElapsed_engineIndex (s : State) :
    s.drawElapsed.engineIndex = s.engineIndex := rfl
@[simp] theorem State.drawElapsed_readData (s : State) :
    s.drawElapsed.readData = s.readData := rfl
@[simp] theorem State.drawElapsed_draws (s : State) :
    s.drawElapsed.draws = s.draws + 2 := rfl
@[simp] theorem State.drawElapsed_schedule (s : State) :
    s.drawElapsed.schedule = s.schedule := rfl

/-! ### hostRead -/

@[simp] theorem State.hostRead_variant (s : State) (r : Reg) :
    (s.hostRead r).variant = s.variant := rfl
@[simp] theorem State.hostRead_mode (s : State) (r : Reg) :
    (s.hostRead r).mode = s.mode := rfl
@[simp] theorem State.hostRead_cv (s : State) (r : Reg) :
    (s.hostRead r).cv = s.cv := rfl
@[simp] theorem State.hostRead_buf (s : State) (r : Reg) :
    (s.hostRead r).buf = s.buf := rfl
@[simp] theorem State.hostRead_len (s : State) (r : Reg) :
    (s.hostRead r).len = s.len := rfl
@[simp] theorem State.hostRead_pend (s : State) (r : Reg) :
    (s.hostRead r).pend = s.pend := rfl
@[simp] theorem State.hostRead_cancelReq (s : State) (r : Reg) :
    (s.hostRead r).cancelReq = s.cancelReq := rfl
@[simp] theorem State.hostRead_ieDone (s : State) (r : Reg) :
    (s.hostRead r).ieDone = s.ieDone := rfl
@[simp] theorem State.hostRead_ieErr (s : State) (r : Reg) :
    (s.hostRead r).ieErr = s.ieErr := rfl
@[simp] theorem State.hostRead_done (s : State) (r : Reg) :
    (s.hostRead r).done = s.done := rfl
@[simp] theorem State.hostRead_err (s : State) (r : Reg) :
    (s.hostRead r).err = s.err := rfl
@[simp] theorem State.hostRead_matched (s : State) (r : Reg) :
    (s.hostRead r).matched = s.matched := rfl
@[simp] theorem State.hostRead_result (s : State) (r : Reg) :
    (s.hostRead r).result = s.result := rfl
@[simp] theorem State.hostRead_errCode (s : State) (r : Reg) :
    (s.hostRead r).errCode = s.errCode := rfl
@[simp] theorem State.hostRead_dataIn (s : State) (r : Reg) :
    (s.hostRead r).dataIn = s.dataIn := rfl
@[simp] theorem State.hostRead_nonceStart (s : State) (r : Reg) :
    (s.hostRead r).nonceStart = s.nonceStart := rfl
@[simp] theorem State.hostRead_maxNonce (s : State) (r : Reg) :
    (s.hostRead r).maxNonce = s.maxNonce := rfl
@[simp] theorem State.hostRead_nonceIn (s : State) (r : Reg) :
    (s.hostRead r).nonceIn = s.nonceIn := rfl
@[simp] theorem State.hostRead_resultNonce (s : State) (r : Reg) :
    (s.hostRead r).resultNonce = s.resultNonce := rfl
@[simp] theorem State.hostRead_attempts (s : State) (r : Reg) :
    (s.hostRead r).attempts = s.attempts := rfl
@[simp] theorem State.hostRead_elapsed (s : State) (r : Reg) :
    (s.hostRead r).elapsed = s.elapsed := rfl
@[simp] theorem State.hostRead_digestOut (s : State) (r : Reg) :
    (s.hostRead r).digestOut = s.digestOut := rfl
@[simp] theorem State.hostRead_expect (s : State) (r : Reg) :
    (s.hostRead r).expect = s.expect := rfl
@[simp] theorem State.hostRead_cancelIn (s : State) (r : Reg) :
    (s.hostRead r).cancelIn = s.cancelIn := rfl
@[simp] theorem State.hostRead_engineIndex (s : State) (r : Reg) :
    (s.hostRead r).engineIndex = s.engineIndex := rfl
@[simp] theorem State.hostRead_readData (s : State) (r : Reg) :
    (s.hostRead r).readData = s.readValue r := rfl
@[simp] theorem State.hostRead_draws (s : State) (r : Reg) :
    (s.hostRead r).draws = if s.busy && anyWhileBusy r then s.draws + 1 else s.draws := rfl
@[simp] theorem State.hostRead_schedule (s : State) (r : Reg) :
    (s.hostRead r).schedule = s.schedule := rfl

/-! ### setCancelIn -/

@[simp] theorem State.setCancelIn_variant (s : State) (l : Bool) :
    (s.setCancelIn l).variant = s.variant := rfl
@[simp] theorem State.setCancelIn_mode (s : State) (l : Bool) :
    (s.setCancelIn l).mode = s.mode := rfl
@[simp] theorem State.setCancelIn_cv (s : State) (l : Bool) :
    (s.setCancelIn l).cv = s.cv := rfl
@[simp] theorem State.setCancelIn_buf (s : State) (l : Bool) :
    (s.setCancelIn l).buf = s.buf := rfl
@[simp] theorem State.setCancelIn_len (s : State) (l : Bool) :
    (s.setCancelIn l).len = s.len := rfl
@[simp] theorem State.setCancelIn_pend (s : State) (l : Bool) :
    (s.setCancelIn l).pend = s.pend := rfl
@[simp] theorem State.setCancelIn_cancelReq (s : State) (l : Bool) :
    (s.setCancelIn l).cancelReq = (s.cancelReq || (l && s.searchPending)) := rfl
@[simp] theorem State.setCancelIn_ieDone (s : State) (l : Bool) :
    (s.setCancelIn l).ieDone = s.ieDone := rfl
@[simp] theorem State.setCancelIn_ieErr (s : State) (l : Bool) :
    (s.setCancelIn l).ieErr = s.ieErr := rfl
@[simp] theorem State.setCancelIn_done (s : State) (l : Bool) :
    (s.setCancelIn l).done = s.done := rfl
@[simp] theorem State.setCancelIn_err (s : State) (l : Bool) :
    (s.setCancelIn l).err = s.err := rfl
@[simp] theorem State.setCancelIn_matched (s : State) (l : Bool) :
    (s.setCancelIn l).matched = s.matched := rfl
@[simp] theorem State.setCancelIn_result (s : State) (l : Bool) :
    (s.setCancelIn l).result = s.result := rfl
@[simp] theorem State.setCancelIn_errCode (s : State) (l : Bool) :
    (s.setCancelIn l).errCode = s.errCode := rfl
@[simp] theorem State.setCancelIn_dataIn (s : State) (l : Bool) :
    (s.setCancelIn l).dataIn = s.dataIn := rfl
@[simp] theorem State.setCancelIn_nonceStart (s : State) (l : Bool) :
    (s.setCancelIn l).nonceStart = s.nonceStart := rfl
@[simp] theorem State.setCancelIn_maxNonce (s : State) (l : Bool) :
    (s.setCancelIn l).maxNonce = s.maxNonce := rfl
@[simp] theorem State.setCancelIn_nonceIn (s : State) (l : Bool) :
    (s.setCancelIn l).nonceIn = s.nonceIn := rfl
@[simp] theorem State.setCancelIn_resultNonce (s : State) (l : Bool) :
    (s.setCancelIn l).resultNonce = s.resultNonce := rfl
@[simp] theorem State.setCancelIn_attempts (s : State) (l : Bool) :
    (s.setCancelIn l).attempts = s.attempts := rfl
@[simp] theorem State.setCancelIn_elapsed (s : State) (l : Bool) :
    (s.setCancelIn l).elapsed = s.elapsed := rfl
@[simp] theorem State.setCancelIn_digestOut (s : State) (l : Bool) :
    (s.setCancelIn l).digestOut = s.digestOut := rfl
@[simp] theorem State.setCancelIn_expect (s : State) (l : Bool) :
    (s.setCancelIn l).expect = s.expect := rfl
@[simp] theorem State.setCancelIn_cancelIn (s : State) (l : Bool) :
    (s.setCancelIn l).cancelIn = l := rfl
@[simp] theorem State.setCancelIn_engineIndex (s : State) (l : Bool) :
    (s.setCancelIn l).engineIndex = s.engineIndex := rfl
@[simp] theorem State.setCancelIn_readData (s : State) (l : Bool) :
    (s.setCancelIn l).readData = s.readData := rfl
@[simp] theorem State.setCancelIn_draws (s : State) (l : Bool) :
    (s.setCancelIn l).draws = s.draws := rfl
@[simp] theorem State.setCancelIn_schedule (s : State) (l : Bool) :
    (s.setCancelIn l).schedule = s.schedule := rfl

/-! ### withSchedule -/

@[simp] theorem State.withSchedule_variant (s : State) (rest : List Event) :
    (s.withSchedule rest).variant = s.variant := rfl
@[simp] theorem State.withSchedule_mode (s : State) (rest : List Event) :
    (s.withSchedule rest).mode = s.mode := rfl
@[simp] theorem State.withSchedule_cv (s : State) (rest : List Event) :
    (s.withSchedule rest).cv = s.cv := rfl
@[simp] theorem State.withSchedule_buf (s : State) (rest : List Event) :
    (s.withSchedule rest).buf = s.buf := rfl
@[simp] theorem State.withSchedule_len (s : State) (rest : List Event) :
    (s.withSchedule rest).len = s.len := rfl
@[simp] theorem State.withSchedule_pend (s : State) (rest : List Event) :
    (s.withSchedule rest).pend = s.pend := rfl
@[simp] theorem State.withSchedule_cancelReq (s : State) (rest : List Event) :
    (s.withSchedule rest).cancelReq = s.cancelReq := rfl
@[simp] theorem State.withSchedule_ieDone (s : State) (rest : List Event) :
    (s.withSchedule rest).ieDone = s.ieDone := rfl
@[simp] theorem State.withSchedule_ieErr (s : State) (rest : List Event) :
    (s.withSchedule rest).ieErr = s.ieErr := rfl
@[simp] theorem State.withSchedule_done (s : State) (rest : List Event) :
    (s.withSchedule rest).done = s.done := rfl
@[simp] theorem State.withSchedule_err (s : State) (rest : List Event) :
    (s.withSchedule rest).err = s.err := rfl
@[simp] theorem State.withSchedule_matched (s : State) (rest : List Event) :
    (s.withSchedule rest).matched = s.matched := rfl
@[simp] theorem State.withSchedule_result (s : State) (rest : List Event) :
    (s.withSchedule rest).result = s.result := rfl
@[simp] theorem State.withSchedule_errCode (s : State) (rest : List Event) :
    (s.withSchedule rest).errCode = s.errCode := rfl
@[simp] theorem State.withSchedule_dataIn (s : State) (rest : List Event) :
    (s.withSchedule rest).dataIn = s.dataIn := rfl
@[simp] theorem State.withSchedule_nonceStart (s : State) (rest : List Event) :
    (s.withSchedule rest).nonceStart = s.nonceStart := rfl
@[simp] theorem State.withSchedule_maxNonce (s : State) (rest : List Event) :
    (s.withSchedule rest).maxNonce = s.maxNonce := rfl
@[simp] theorem State.withSchedule_nonceIn (s : State) (rest : List Event) :
    (s.withSchedule rest).nonceIn = s.nonceIn := rfl
@[simp] theorem State.withSchedule_resultNonce (s : State) (rest : List Event) :
    (s.withSchedule rest).resultNonce = s.resultNonce := rfl
@[simp] theorem State.withSchedule_attempts (s : State) (rest : List Event) :
    (s.withSchedule rest).attempts = s.attempts := rfl
@[simp] theorem State.withSchedule_elapsed (s : State) (rest : List Event) :
    (s.withSchedule rest).elapsed = s.elapsed := rfl
@[simp] theorem State.withSchedule_digestOut (s : State) (rest : List Event) :
    (s.withSchedule rest).digestOut = s.digestOut := rfl
@[simp] theorem State.withSchedule_expect (s : State) (rest : List Event) :
    (s.withSchedule rest).expect = s.expect := rfl
@[simp] theorem State.withSchedule_cancelIn (s : State) (rest : List Event) :
    (s.withSchedule rest).cancelIn = s.cancelIn := rfl
@[simp] theorem State.withSchedule_engineIndex (s : State) (rest : List Event) :
    (s.withSchedule rest).engineIndex = s.engineIndex := rfl
@[simp] theorem State.withSchedule_readData (s : State) (rest : List Event) :
    (s.withSchedule rest).readData = s.readData := rfl
@[simp] theorem State.withSchedule_draws (s : State) (rest : List Event) :
    (s.withSchedule rest).draws = s.draws := rfl
@[simp] theorem State.withSchedule_schedule (s : State) (rest : List Event) :
    (s.withSchedule rest).schedule = rest := rfl

/-! ### hardwareReset -/

@[simp] theorem State.hardwareReset_variant (s : State) :
    s.hardwareReset.variant = State.reset.variant := rfl
@[simp] theorem State.hardwareReset_mode (s : State) :
    s.hardwareReset.mode = State.reset.mode := rfl
@[simp] theorem State.hardwareReset_cv (s : State) :
    s.hardwareReset.cv = State.reset.cv := rfl
@[simp] theorem State.hardwareReset_buf (s : State) :
    s.hardwareReset.buf = State.reset.buf := rfl
@[simp] theorem State.hardwareReset_len (s : State) :
    s.hardwareReset.len = State.reset.len := rfl
@[simp] theorem State.hardwareReset_pend (s : State) :
    s.hardwareReset.pend = State.reset.pend := rfl
@[simp] theorem State.hardwareReset_cancelReq (s : State) :
    s.hardwareReset.cancelReq = State.reset.cancelReq := rfl
@[simp] theorem State.hardwareReset_ieDone (s : State) :
    s.hardwareReset.ieDone = State.reset.ieDone := rfl
@[simp] theorem State.hardwareReset_ieErr (s : State) :
    s.hardwareReset.ieErr = State.reset.ieErr := rfl
@[simp] theorem State.hardwareReset_done (s : State) :
    s.hardwareReset.done = State.reset.done := rfl
@[simp] theorem State.hardwareReset_err (s : State) :
    s.hardwareReset.err = State.reset.err := rfl
@[simp] theorem State.hardwareReset_matched (s : State) :
    s.hardwareReset.matched = State.reset.matched := rfl
@[simp] theorem State.hardwareReset_result (s : State) :
    s.hardwareReset.result = State.reset.result := rfl
@[simp] theorem State.hardwareReset_errCode (s : State) :
    s.hardwareReset.errCode = State.reset.errCode := rfl
@[simp] theorem State.hardwareReset_dataIn (s : State) :
    s.hardwareReset.dataIn = State.reset.dataIn := rfl
@[simp] theorem State.hardwareReset_nonceStart (s : State) :
    s.hardwareReset.nonceStart = State.reset.nonceStart := rfl
@[simp] theorem State.hardwareReset_maxNonce (s : State) :
    s.hardwareReset.maxNonce = State.reset.maxNonce := rfl
@[simp] theorem State.hardwareReset_nonceIn (s : State) :
    s.hardwareReset.nonceIn = State.reset.nonceIn := rfl
@[simp] theorem State.hardwareReset_resultNonce (s : State) :
    s.hardwareReset.resultNonce = State.reset.resultNonce := rfl
@[simp] theorem State.hardwareReset_attempts (s : State) :
    s.hardwareReset.attempts = State.reset.attempts := rfl
@[simp] theorem State.hardwareReset_elapsed (s : State) :
    s.hardwareReset.elapsed = State.reset.elapsed := rfl
@[simp] theorem State.hardwareReset_digestOut (s : State) :
    s.hardwareReset.digestOut = State.reset.digestOut := rfl
@[simp] theorem State.hardwareReset_expect (s : State) :
    s.hardwareReset.expect = State.reset.expect := rfl
@[simp] theorem State.hardwareReset_cancelIn (s : State) :
    s.hardwareReset.cancelIn = s.cancelIn := rfl
@[simp] theorem State.hardwareReset_engineIndex (s : State) :
    s.hardwareReset.engineIndex = s.engineIndex := rfl
@[simp] theorem State.hardwareReset_readData (s : State) :
    s.hardwareReset.readData = s.readData := rfl
@[simp] theorem State.hardwareReset_draws (s : State) :
    s.hardwareReset.draws = s.draws := rfl
@[simp] theorem State.hardwareReset_schedule (s : State) :
    s.hardwareReset.schedule = s.schedule := rfl

/-! ### writeOutcome -/

@[simp] theorem State.writeOutcome_variant (s : State) (o : SearchOutcome) :
    (s.writeOutcome o).variant = s.variant := by cases o <;> rfl
@[simp] theorem State.writeOutcome_mode (s : State) (o : SearchOutcome) :
    (s.writeOutcome o).mode = s.mode := by cases o <;> rfl
@[simp] theorem State.writeOutcome_cv (s : State) (o : SearchOutcome) :
    (s.writeOutcome o).cv = s.cv := by cases o <;> rfl
@[simp] theorem State.writeOutcome_buf (s : State) (o : SearchOutcome) :
    (s.writeOutcome o).buf = s.buf := by cases o <;> rfl
@[simp] theorem State.writeOutcome_len (s : State) (o : SearchOutcome) :
    (s.writeOutcome o).len = s.len := by cases o <;> rfl
@[simp] theorem State.writeOutcome_pend (s : State) (o : SearchOutcome) :
    (s.writeOutcome o).pend = s.pend := by cases o <;> rfl
@[simp] theorem State.writeOutcome_cancelReq (s : State) (o : SearchOutcome) :
    (s.writeOutcome o).cancelReq = s.cancelReq := by cases o <;> rfl
@[simp] theorem State.writeOutcome_ieDone (s : State) (o : SearchOutcome) :
    (s.writeOutcome o).ieDone = s.ieDone := by cases o <;> rfl
@[simp] theorem State.writeOutcome_ieErr (s : State) (o : SearchOutcome) :
    (s.writeOutcome o).ieErr = s.ieErr := by cases o <;> rfl
@[simp] theorem State.writeOutcome_done (s : State) (o : SearchOutcome) :
    (s.writeOutcome o).done = s.done := by cases o <;> rfl
@[simp] theorem State.writeOutcome_err (s : State) (o : SearchOutcome) :
    (s.writeOutcome o).err = s.err := by cases o <;> rfl
@[simp] theorem State.writeOutcome_matched (s : State) (o : SearchOutcome) :
    (s.writeOutcome o).matched = s.matched := by cases o <;> rfl
@[simp] theorem State.writeOutcome_errCode (s : State) (o : SearchOutcome) :
    (s.writeOutcome o).errCode = s.errCode := by cases o <;> rfl
@[simp] theorem State.writeOutcome_dataIn (s : State) (o : SearchOutcome) :
    (s.writeOutcome o).dataIn = s.dataIn := by cases o <;> rfl
@[simp] theorem State.writeOutcome_nonceStart (s : State) (o : SearchOutcome) :
    (s.writeOutcome o).nonceStart = s.nonceStart := by cases o <;> rfl
@[simp] theorem State.writeOutcome_maxNonce (s : State) (o : SearchOutcome) :
    (s.writeOutcome o).maxNonce = s.maxNonce := by cases o <;> rfl
@[simp] theorem State.writeOutcome_nonceIn (s : State) (o : SearchOutcome) :
    (s.writeOutcome o).nonceIn = s.nonceIn := by cases o <;> rfl
@[simp] theorem State.writeOutcome_elapsed (s : State) (o : SearchOutcome) :
    (s.writeOutcome o).elapsed = s.elapsed := by cases o <;> rfl
@[simp] theorem State.writeOutcome_expect (s : State) (o : SearchOutcome) :
    (s.writeOutcome o).expect = s.expect := by cases o <;> rfl
@[simp] theorem State.writeOutcome_cancelIn (s : State) (o : SearchOutcome) :
    (s.writeOutcome o).cancelIn = s.cancelIn := by cases o <;> rfl
@[simp] theorem State.writeOutcome_engineIndex (s : State) (o : SearchOutcome) :
    (s.writeOutcome o).engineIndex = s.engineIndex := by cases o <;> rfl
@[simp] theorem State.writeOutcome_readData (s : State) (o : SearchOutcome) :
    (s.writeOutcome o).readData = s.readData := by cases o <;> rfl
@[simp] theorem State.writeOutcome_draws (s : State) (o : SearchOutcome) :
    (s.writeOutcome o).draws = s.draws := by cases o <;> rfl
@[simp] theorem State.writeOutcome_schedule (s : State) (o : SearchOutcome) :
    (s.writeOutcome o).schedule = s.schedule := by cases o <;> rfl
@[simp] theorem State.writeOutcome_attempts (s : State) (o : SearchOutcome) :
    (s.writeOutcome o).attempts = o.attempts := by cases o <;> rfl

end Sys2Proof.Machine
end

