-- ==== Sys2Proof/Laws/Ops.lean ====
section
/-! SUPPORT. What each shared operation can do, said once: the provers cite these lemmas instead of unfolding the
operation. -/

namespace Sys2Proof.Machine

/-- A completion answers a next state exactly where a command is pending: its effect where the accept step's checks
hold of it, the record of its error where they do not. -/
theorem State.complete_next {s t : State} {i : Instr} {effect : Pending → State} :
    s.complete i effect = .next t ↔ ∃ p, s.pend = some p
      ∧ ((s.refusal i = none ∧ (effect p).finish = t)
        ∨ ∃ code, s.refusal i = some code ∧ s.dropCommand code = t) := by
  unfold State.complete
  cases s.pend with
  | none => simp
  | some p => cases s.refusal i <;> simp

theorem State.complete_none {s : State} (h : s.pend = none) (i : Instr) (effect : Pending → State) :
    s.complete i effect = .fault .completionNotEnabled := by
  simp [State.complete, h]

theorem State.busy_iff {s : State} : s.busy = true ↔ ∃ p, s.pend = some p := by
  simp [State.busy, Option.isSome_iff_exists]

theorem State.busy_eq_false_iff {s : State} : s.busy = false ↔ s.pend = none := by
  simp [State.busy]

theorem State.searchPending_iff {s : State} :
    s.searchPending = true ↔ ∃ p, s.pend = some p ∧ opcodeOf p.word = 0x06#8 := by
  unfold State.searchPending
  cases s.pend <;> simp

/-- The command of a legal word: it decodes, is well formed and the variant admits it. -/
theorem legalCommand_eq_some {v : Variant} {w : Word32} {i : Instr} :
    legalCommand v w = some i ↔
      decode w = .ok i ∧ i.wellFormed = true ∧ i.allowedUnder v = true := by
  unfold legalCommand
  cases decode w with
  | error e => simp
  | ok j =>
    simp only [Except.ok.injEq]
    constructor
    · intro h
      split at h
      · rename_i hj
        cases h
        exact ⟨rfl, by simpa using hj⟩
      · cases h
    · rintro ⟨rfl, h1, h2⟩
      simp [h1, h2]

theorem legal_eq_true {v : Variant} {w : Word32} :
    legal v w = true ↔ ∃ i, legalCommand v w = some i := by
  simp [legal, Option.isSome_iff_exists]

theorem legal_eq_false {v : Variant} {w : Word32} : legal v w = false ↔ legalCommand v w = none := by
  simp [legal]

/-- The three comparisons of the length check are the one comparison of the accept step. -/
theorem State.lengthCheckFails_iff {s : State} {i : Instr} :
    s.lengthCheckFails i ↔ s.lengthAfter i > Config.lmax := by
  cases i with
  | search k f => cases f <;> simp [State.lengthCheckFails, State.lengthAfter, Config.lmax, maxSuffix]
  | verify f => cases f <;> simp [State.lengthCheckFails, State.lengthAfter, Config.lmax, maxSuffix]
  | _ => simp [State.lengthCheckFails, State.lengthAfter, Config.lmax]

/-- The checks of a command, in their order (R120). -/
theorem State.refusal_cases (s : State) (i : Instr) :
    ((i.wellFormed = false ∨ i.allowedUnder s.variant = false) ∧ s.refusal i = some .illegalCmd)
    ∨ (i.wellFormed = true ∧ i.allowedUnder s.variant = true ∧ s.lengthCheckFails i
        ∧ s.refusal i = some .lengthOverflow)
    ∨ (i.wellFormed = true ∧ i.allowedUnder s.variant = true ∧ ¬ s.lengthCheckFails i
        ∧ s.refusal i = none) := by
  rw [State.lengthCheckFails_iff]
  unfold State.refusal
  cases i.wellFormed <;> cases i.allowedUnder s.variant <;> by_cases h : s.lengthAfter i > Config.lmax <;>
    simp [h]

/-- A command is not refused exactly where all of its checks hold. -/
theorem State.refusal_eq_none {s : State} {i : Instr} :
    s.refusal i = none ↔
      i.wellFormed = true ∧ i.allowedUnder s.variant = true ∧ ¬ s.lengthCheckFails i := by
  rcases s.refusal_cases i with ⟨h1, h⟩ | ⟨h1, h2, h3, h⟩ | ⟨h1, h2, h3, h⟩
  · rw [h]; rcases h1 with h1 | h1 <;> simp [h1]
  · rw [h]; simp only [reduceCtorEq, false_iff, not_and, not_not]; exact fun _ _ => h3
  · rw [h]; exact iff_of_true rfl ⟨h1, h2, h3⟩

/-- The accept step ends in one of four ways (R44, R120). -/
theorem State.acceptCommand_cases (s : State) (c : Word32) :
    (s.pend ≠ none ∧ s.acceptCommand c = s.raiseErr .busy)
    ∨ (s.pend = none ∧ legalCommand s.variant c = none ∧ s.acceptCommand c = s.raiseErr .illegalCmd)
    ∨ (s.pend = none ∧ ∃ i, legalCommand s.variant c = some i ∧ s.lengthCheckFails i
        ∧ s.acceptCommand c = s.raiseErr .lengthOverflow)
    ∨ (s.pend = none ∧ ∃ i, legalCommand s.variant c = some i ∧ ¬ s.lengthCheckFails i
        ∧ s.acceptCommand c = s.latchCommand i c) := by
  unfold State.acceptCommand State.busy
  cases hp : s.pend with
  | some p => simp
  | none =>
    cases hd : decode c with
    | error e =>
      have hl : legalCommand s.variant c = none := by simp [legalCommand, hd]
      simp [hl]
    | ok i =>
      rcases s.refusal_cases i with ⟨h1, h⟩ | ⟨h1, h2, h3, h⟩ | ⟨h1, h2, h3, h⟩
      · have hl : legalCommand s.variant c = none := by
          rcases h1 with h1 | h1 <;> simp [legalCommand, hd, h1]
        simp [hl, h]
      · have hl : legalCommand s.variant c = some i := legalCommand_eq_some.mpr ⟨hd, h1, h2⟩
        exact .inr (.inr (.inl ⟨rfl, i, hl, h3, by simp [h]⟩))
      · have hl : legalCommand s.variant c = some i := legalCommand_eq_some.mpr ⟨hd, h1, h2⟩
        exact .inr (.inr (.inr ⟨rfl, i, hl, h3, by simp [h]⟩))

@[simp] theorem State.lengthAfter_withSchedule (s : State) (rest : List Event) (i : Instr) :
    (s.withSchedule rest).lengthAfter i = s.lengthAfter i := by cases i <;> rfl

/-- An aligned offset has a register exactly inside the window (R25, R47). -/
theorem regAt_eq_none {o : Nat} : regAt o = none ↔ o % 4 ≠ 0 ∨ 0x80 ≤ o := by
  have hl : windowRegs.length = 32 := rfl
  unfold regAt
  split
  · rw [List.getElem?_eq_none_iff, hl]
    omega
  · simp [*]

/-- No host write changes which instance a state is of. -/
theorem State.hostWrite_engineIndex (s : State) (r : Reg) (v : Word32) :
    (s.hostWrite r v).engineIndex = s.engineIndex := by
  cases r <;> try rfl
  rcases s.acceptCommand_cases v with ⟨_, e⟩ | ⟨_, _, e⟩ | ⟨_, _, _, _, e⟩ | ⟨_, _, _, _, e⟩ <;>
    rw [State.hostWrite, e] <;> rfl

/-- A host access that is performed reaches a register of the window (R48). -/
theorem hostAccess_next {w : AccessWidth} {o : Nat} {effect : Reg → State} {t : State} :
    hostAccess w o effect = .next t ↔ w = .word ∧ ∃ r, regAt o = some r ∧ effect r = t := by
  unfold hostAccess
  by_cases hw : w = .word
  · by_cases ho : o % 4 = 0
    · cases hr : regAt o <;> simp [hw, ho]
    · have hr : regAt o = none := regAt_eq_none.mpr (.inl ho)
      simp [hw, ho, hr]
  · simp [hw]

/-- A host access never refuses. -/
theorem hostAccess_ne_refused {w : AccessWidth} {o : Nat} {effect : Reg → State} {r : Refusal} :
    hostAccess w o effect ≠ .refused r := by
  unfold hostAccess
  split
  · simp
  · split
    · simp
    · split <;> simp

/-- The engine's step (R45): idle, the meaning of the pending command, or the drop of a word that is no
command. -/
theorem engineStep_cases (s : State) :
    (s.pend = none ∧ engineStep s = .next s)
    ∨ (∃ p i, s.pend = some p ∧ decode p.word = .ok i ∧ engineStep s = exec i s)
    ∨ (∃ p e, s.pend = some p ∧ decode p.word = .error e
        ∧ engineStep s = .next (s.dropCommand .illegalCmd)) := by
  unfold engineStep
  cases hp : s.pend with
  | none => simp
  | some p => cases hl : decode p.word <;> simp [hl]

/-- What one step can do: the engine moves on an empty schedule, or the scheduled agent moves (R15). -/
theorem step_cases (s : State) :
    (s.schedule = [] ∧ step s = engineStep s)
    ∨ ∃ e rest, s.schedule = e :: rest ∧ step s = agentStep e (s.withSchedule rest) := by
  unfold step
  cases s.schedule <;> simp

/-- What a step that answers a next state can be: the engine's step, a host access that reached a register, a
hardware reset, or a change of `cancel_in`. -/
theorem step_next_cases {s t : State} (h : step s = .next t) :
    (s.engineMoves ∧ ∃ s0, (s0 = s ∨ ∃ rest, s.schedule = .engine :: rest ∧ s0 = s.withSchedule rest)
        ∧ engineStep s0 = .next t)
    ∨ (∃ o rest r, s.schedule = .hostRead .word o :: rest ∧ regAt o = some r
        ∧ t = (s.withSchedule rest).hostRead r)
    ∨ (∃ o v rest r, s.schedule = .hostWrite .word o v :: rest ∧ regAt o = some r
        ∧ t = (s.withSchedule rest).hostWrite r v)
    ∨ (∃ rest, s.schedule = .platformReset :: rest ∧ t = (s.withSchedule rest).hardwareReset)
    ∨ (∃ level rest, s.schedule = .platformCancelIn level :: rest
        ∧ t = (s.withSchedule rest).setCancelIn level) := by
  rcases step_cases s with ⟨hs, he⟩ | ⟨e, rest, hs, he⟩
  · exact .inl ⟨.inl hs, s, .inl rfl, he ▸ h⟩
  · rw [he] at h
    cases e with
    | hostRead w o =>
      obtain ⟨rfl, r, hr, rfl⟩ := hostAccess_next.mp h
      exact .inr (.inl ⟨o, rest, r, hs, hr, rfl⟩)
    | hostWrite w o v =>
      obtain ⟨rfl, r, hr, rfl⟩ := hostAccess_next.mp h
      exact .inr (.inr (.inl ⟨o, v, rest, r, hs, hr, rfl⟩))
    | engine => exact .inl ⟨.inr (by simp [hs]), _, .inr ⟨rest, hs, rfl⟩, h⟩
    | platformReset => cases h; exact .inr (.inr (.inr (.inl ⟨rest, hs, rfl⟩)))
    | platformCancelIn l => cases h; exact .inr (.inr (.inr (.inr ⟨l, rest, hs, rfl⟩)))

/-- A host write reaches CMD through its one offset. -/
theorem regAt_cmd {o : Nat} : regAt o = some .cmd ↔ o = 0x10 := by
  constructor
  · intro h
    have hb : o % 4 = 0 ∧ o < 0x80 := by
      by_contra hc
      rw [regAt_eq_none.mpr (by omega)] at h
      cases h
    obtain ⟨k, hk, rfl⟩ : ∃ k, k < 32 ∧ o = 4 * k := ⟨o / 4, by omega, by omega⟩
    have key : ∀ k < 32, regAt (4 * k) = some .cmd → 4 * k = 0x10 := by decide
    exact key k hk h
  · rintro rfl; rfl

/-- A host write reaches STATUS through its one offset. -/
theorem regAt_status {o : Nat} : regAt o = some .status ↔ o = 0x08 := by
  constructor
  · intro h
    have hb : o % 4 = 0 ∧ o < 0x80 := by
      by_contra hc
      rw [regAt_eq_none.mpr (by omega)] at h
      cases h
    obtain ⟨k, hk, rfl⟩ : ∃ k, k < 32 ∧ o = 4 * k := ⟨o / 4, by omega, by omega⟩
    have key : ∀ k < 32, regAt (4 * k) = some .status → 4 * k = 0x08 := by decide
    exact key k hk h
  · rintro rfl; rfl

/-! ### The completion of each command, said once -/

theorem modeOfField_eq_none {m : BitVec 2} : modeOfField m = none ↔ m = 3#2 := by
  revert m; decide

/-- The effect of a command on a state in which it is pending with the latched operands `p`, before the end of the
completion step (R97 to R100, R102, R110, R115). -/
def effectOf (i : Instr) (s : State) (p : Pending) : State :=
  match i with
  | .init m v => State.restartStream { s with variant := v, mode := (modeOfField m).getD s.mode }
  | .reset => s.restartStream
  | .upd1 b => s.absorbBytes [b]
  | .updn n => s.absorbBytes (updnBytes p.dataIn n)
  | .digest => { s with digestOut := digestWords s.streamDigest }
  | .search k f => (s.writeOutcome (s.searchOutcome k.toNat f p)).drawElapsed
  | .verify f =>
    { s with
      digestOut := digestWords (s.candidate f p.nonceIn)
      matched := decide (digestWords (s.candidate f p.nonceIn) = p.expect) }

/-- Every meaning is a completion with its own effect. -/
theorem exec_eq_complete (i : Instr) (s : State) : exec i s = s.complete i (effectOf i s) := by
  cases i <;> rfl

/-- A command that the accept step's checks hold of completes with its effect. -/
theorem exec_ready {i : Instr} {s : State} {p : Pending} (h : s.ready i p) :
    exec i s = .next (effectOf i s p).finish := by
  rw [exec_eq_complete, State.complete_next]
  exact ⟨p, h.1, .inl ⟨State.refusal_eq_none.mpr h.2, rfl⟩⟩

/-- What a meaning that answers a next state did: the effect of a command whose checks hold, or the drop of one
whose checks do not. -/
theorem exec_next_cases {i : Instr} {s t : State} (h : exec i s = .next t) :
    ∃ p, s.pend = some p ∧ ((s.ready i p ∧ (effectOf i s p).finish = t)
      ∨ ∃ code, s.refusal i = some code ∧ s.dropCommand code = t) := by
  rw [exec_eq_complete, State.complete_next] at h
  obtain ⟨p, hp, ⟨hr, he⟩ | hd⟩ := h
  · exact ⟨p, hp, .inl ⟨⟨hp, State.refusal_eq_none.mp hr⟩, he⟩⟩
  · exact ⟨p, hp, .inr hd⟩

/-- A meaning answers a next state wherever a command is pending. -/
theorem exec_completes {i : Instr} {s : State} {p : Pending} (hp : s.pend = some p) :
    ∃ t, exec i s = .next t := by
  rw [exec_eq_complete]
  cases hr : s.refusal i with
  | none => exact ⟨_, State.complete_next.mpr ⟨p, hp, .inl ⟨hr, rfl⟩⟩⟩
  | some code => exact ⟨_, State.complete_next.mpr ⟨p, hp, .inr ⟨code, hr, rfl⟩⟩⟩

/-- With nothing pending no completion step is enabled (R45). -/
theorem exec_idle {i : Instr} {s : State} (hp : s.pend = none) :
    exec i s = .fault .completionNotEnabled := by
  rw [exec_eq_complete, State.complete_none hp]

/-- The end of a completion, whatever the command, sets DONE, ends the command and leaves the registers the host
owns, the error record, CANCEL_REQ, the instance's index and the model's schedule. -/
theorem effectOf_finish_frame (i : Instr) (s : State) (p : Pending) :
    (effectOf i s p).finish.done = true ∧ (effectOf i s p).finish.pend = none
    ∧ (effectOf i s p).finish.err = s.err ∧ (effectOf i s p).finish.errCode = s.errCode
    ∧ (effectOf i s p).finish.cancelReq = s.cancelReq ∧ (effectOf i s p).finish.ieDone = s.ieDone
    ∧ (effectOf i s p).finish.ieErr = s.ieErr ∧ (effectOf i s p).finish.dataIn = s.dataIn
    ∧ (effectOf i s p).finish.nonceStart = s.nonceStart ∧ (effectOf i s p).finish.maxNonce = s.maxNonce
    ∧ (effectOf i s p).finish.nonceIn = s.nonceIn ∧ (effectOf i s p).finish.expect = s.expect
    ∧ (effectOf i s p).finish.cancelIn = s.cancelIn ∧ (effectOf i s p).finish.readData = s.readData
    ∧ (effectOf i s p).finish.schedule = s.schedule ∧ (effectOf i s p).finish.engineIndex = s.engineIndex := by
  cases i <;> simp [effectOf]

/-- No step changes which instance a state is of (R129). -/
theorem step_engineIndex {s t : State} (h : step s = .next t) : t.engineIndex = s.engineIndex := by
  rcases step_next_cases h with ⟨_, s0, h0, he⟩ | ⟨_, _, _, _, _, rfl⟩ | ⟨_, v, rest, r, _, _, rfl⟩
    | ⟨_, _, rfl⟩ | ⟨_, _, _, rfl⟩
  · have hs : s0.engineIndex = s.engineIndex := by rcases h0 with rfl | ⟨_, _, rfl⟩ <;> simp
    rw [← hs]
    rcases engineStep_cases s0 with ⟨_, hx⟩ | ⟨_, i, _, _, hx⟩ | ⟨_, _, _, _, hx⟩ <;> rw [hx] at he
    · cases he; rfl
    · obtain ⟨p, _, ⟨_, rfl⟩ | ⟨code, _, rfl⟩⟩ := exec_next_cases he
      · exact (effectOf_finish_frame i s0 p).2.2.2.2.2.2.2.2.2.2.2.2.2.2.2
      · simp
    · cases he; simp
  · simp
  · rw [State.hostWrite_engineIndex]; simp
  · simp
  · simp

end Sys2Proof.Machine
end

