-- ==== Sys2Proof/Laws/PerInstr.lean ====
section
/-! SUPPORT. The per-command family `FixedBits`: the word of a command has the fixed bits of its row of
spec/opcode_table.json, whatever its operands. -/

namespace Sys2Proof.Laws.FixedBits

/-- The mask of a command's row. -/
def rowMask : Instr → Word32
  | .init _ _ => 0xFFFFFFF8
  | .reset => 0xFFFFFFFF
  | .upd1 _ => 0xFFFFFF00
  | .updn _ => 0xFFFFFFF8
  | .digest => 0xFFFFFFFF
  | .search _ _ => 0xFFFFFE80
  | .verify _ => 0xFFFFFEFF

/-- The match of a command's row. -/
def rowMatch : Instr → Word32
  | .init _ _ => 0x01000000
  | .reset => 0x02000000
  | .upd1 _ => 0x03000000
  | .updn _ => 0x04000000
  | .digest => 0x05000000
  | .search _ _ => 0x06000000
  | .verify _ => 0x07000000

/-- The word of the command has its row's fixed bits. -/
def Statement (i : Instr) : Prop := encode i &&& rowMask i = rowMatch i

theorem init (mode : BitVec 2) (variant : Variant) : Statement (.init mode variant) := by
  unfold Statement; cases variant <;> revert mode <;> decide

theorem reset : Statement .reset := by unfold Statement; decide

theorem upd1 (byte : Byte) : Statement (.upd1 byte) := by
  unfold Statement; revert byte; decide +kernel

theorem updn (count : BitVec 3) : Statement (.updn count) := by
  unfold Statement; revert count; decide

theorem digest : Statement .digest := by unfold Statement; decide

theorem search (zeros : BitVec 7) (suffix : Suffix) : Statement (.search zeros suffix) := by
  unfold Statement; cases suffix <;> revert zeros <;> decide +kernel

theorem verify (suffix : Suffix) : Statement (.verify suffix) := by
  unfold Statement; cases suffix <;> decide

end Sys2Proof.Laws.FixedBits
end

