-- ==== Sys2Proof/Machine/HostSequences.lean ====
section
/-! DEFINITION. The pseudo-operations of 30_encoding.md R75 as schedules: each is a sequence of host accesses, not
a command word. The number of polls that still see BUSY = 1 stands for the open latency `LAT` (R141); every WAITIDLE
of a sequence has its own number, because LAT may depend on the command, its operands and the state (log entry 21). -/

namespace Sys2Proof.Machine

/-- `W <REG>, <value>` (R74), the register given by its offset. -/
def writeTo (offset : Nat) (value : Word32) : Event := .hostWrite .word offset value

/-- `R <REG>` (R74). -/
def readFrom (offset : Nat) : Event := .hostRead .word offset

/-- `CMD <mnemonic ...>` (R75). -/
def cmdSequence (i : Instr) : List Event := [writeTo 0x10 (encode i)]

/-- `WAITIDLE` (R75): polls of STATUS that see BUSY = 1, the completion, and the poll that sees BUSY = 0. With
nothing pending the number is 0 and the engine's step changes nothing (log entries 5 and 21). -/
def waitIdle (polls : Nat) : List Event := List.replicate polls (readFrom 0x08) ++ [.engine, readFrom 0x08]

/-- `ISSUE <mnemonic ...>` (R75): the polls of the WAITIDLE before the command and of the one after it. -/
def issue (polls : Nat × Nat) (i : Instr) : List Event :=
  waitIdle polls.1 ++ cmdSequence i ++ waitIdle polls.2

/-- `UPDW <w32>` (R75). -/
def updw (polls : Nat × Nat) (w : Word32) : List Event := writeTo 0x14 w :: issue polls (.updn 4)

/-- `ABSORB <b0 b1 …>` (R75): groups of four bytes, and a last group of one to three in the top lanes. `polls n` are
the polls around the n-th command. -/
def absorbSequence (polls : Nat → Nat × Nat) : List Byte → List Event
  | b0 :: b1 :: b2 :: b3 :: rest =>
    updw (polls 0) (b0 ++ b1 ++ b2 ++ b3) ++ absorbSequence (fun n => polls (n + 1)) rest
  | [b0, b1, b2] => writeTo 0x14 (b0 ++ b1 ++ b2 ++ 0#8) :: issue (polls 0) (.updn 3)
  | [b0, b1] => writeTo 0x14 (b0 ++ b1 ++ 0#16) :: issue (polls 0) (.updn 2)
  | [b0] => writeTo 0x14 (b0 ++ 0#24) :: issue (polls 0) (.updn 1)
  | [] => []

/-- `R DIGEST_OUT[0..7]` (R75). -/
def readDigest : List Event := (List.range 8).map fun i => readFrom (0x40 + 4 * i)

/-- `HASH <variant/mode>, <bytes>` (R75). `polls` gives the polls around INIT (0), around DIGEST (1) and around the
n-th UPDN (n + 2). -/
def hashSequence (polls : Nat → Nat × Nat) (v : Variant) (m : Mode) (msg : List Byte) : List Event :=
  issue (polls 0) (.init (modeCode m) v) ++ absorbSequence (fun n => polls (n + 2)) msg ++ issue (polls 1) .digest
    ++ readDigest

/-- `MINE <variant/mode>, <base>, <k>, <N>` (R75). `polls` gives the polls around INIT (0), around SEARCH (1) and
around the n-th UPDN (n + 2). -/
def mineSequence (polls : Nat → Nat × Nat) (v : Variant) (m : Mode) (base : List Byte) (k : BitVec 7)
    (bound : Word32) : List Event :=
  issue (polls 0) (.init (modeCode m) v) ++ absorbSequence (fun n => polls (n + 2)) base
    ++ [writeTo 0x18 0, writeTo 0x1C bound] ++ issue (polls 1) (.search k .dec)
    ++ [readFrom 0x08, readFrom 0x24, readFrom 0x28] ++ readDigest

end Sys2Proof.Machine
end

