-- ==== Sys2Proof/Tests/Slice0.lean ====
section
/-! SUPPORT. The model's own tests. Expected values come from spec/95_test_vectors.md (the section is named with
each test). The second half holds, for every statement with hypotheses, a state and operands that meet them. -/

namespace Sys2Proof.Tests

open Sys2Proof.Machine

/-! The kernel evaluates many small states here; one at a time keeps the number of threads small. -/
set_option Elab.async false

/-! ### Helpers -/

/-- The outcome is a next state with the property. -/
def nextHas (o : Host.Outcome State Fault Refusal) (P : State → Bool) : Bool :=
  match o with
  | .next t => P t
  | .fault _ => false
  | .refused _ => false

/-- The outcome is the fault. -/
def faultIs (o : Host.Outcome State Fault Refusal) (f : Fault) : Bool :=
  match o with
  | .next _ => false
  | .fault g => g == f
  | .refused _ => false

theorem nextHas_witness {o : Host.Outcome State Fault Refusal} {P : State → Bool} (h : nextHas o P = true) :
    ∃ t, o = .next t ∧ P t = true := by
  cases o with
  | next t => exact ⟨t, rfl, h⟩
  | fault f => cases h
  | refused r => cases h

theorem faultIs_witness {o : Host.Outcome State Fault Refusal} {f : Fault} (h : faultIs o f = true) :
    o = .fault f := by
  cases o with
  | next t => cases h
  | fault g => rw [eq_of_beq h]
  | refused r => cases h

/-- The reset state with a StandardDigest stream shorter than a block, and events to come. -/
def shortStream (m : List Byte) (events : List Event) : State :=
  { State.reset with buf := m, len := BitVec.ofNat 61 m.length, schedule := events }

/-- "Hello, world" (§1 W3). -/
def hello : List Byte := [0x48, 0x65, 0x6C, 0x6C, 0x6F, 0x2C, 0x20, 0x77, 0x6F, 0x72, 0x6C, 0x64]

/-- A command word is pending with its operands latched. -/
def withPend (s : State) (i : Instr) : State := { s with pend := some (s.latched (encode i)) }

/-- The declared TEST_IV of the vectors. It is no value of the hardware. -/
def testIv : SWords :=
  { s0 := 0x0123456789abcdef, s1 := 0xfedcba9876543210, s2 := 0x0f1e2d3c4b5a6978, s3 := 0x8796a5b4c3d2e1f0 }

/-- The header prefix of §1 W9, bytes 0..75. -/
def headerPrefix : List Byte :=
  [1, 0, 0, 0] ++ List.replicate 32 0 ++ List.replicate 32 0x11
    ++ [0x00, 0x10, 0x5e, 0x5f, 0xff, 0xff, 0x00, 0x1d]

/-- A FastMixDigest stream in mode Standard that holds the header prefix, from TEST_IV. -/
def headerStream : State :=
  let st := absorb .fastMixDigest .standard (chainOfS testIv, []) headerPrefix
  { State.reset with variant := .fastMixDigest, cv := st.1, buf := st.2, len := 76 }

/-- The digest of "Hello, world3582" (§2.9). -/
def digest3582 : Vector Word32 8 :=
  #v[0x00031d17, 0xe6d800fc, 0xad661925, 0x5ea3c251, 0x0fb553e0, 0xf953597e, 0xd1004e80, 0xa1d63787]

/-- "Hello, world" with the search operands set and the command pending (§2.10). -/
def helloSearch (start max : Word32) (k : BitVec 7) : State :=
  withPend { shortStream hello [] with nonceStart := start, maxNonce := max } (.search k .dec)

/-- "Hello, world" with the verify operands set and the command pending (§2.11). -/
def helloVerify (nonce : Word32) : State :=
  withPend { shortStream hello [] with nonceIn := nonce, expect := digest3582 } (.verify .dec)

/-- A stream of the given length whose content does not matter, idle (§2.8: hypothetical states). -/
def longStream (len : Nat) (events : List Event) : State :=
  { State.reset with len := BitVec.ofNat 61 len, schedule := events }

/-! ### Well-formedness -/

theorem test_init_mode_3_ill_formed : (Instr.init 3 .fastMixDigest).wellFormed = false := by decide
theorem test_updn_0_ill_formed : (Instr.updn 0).wellFormed = false := by decide
theorem test_updn_5_ill_formed : (Instr.updn 5).wellFormed = false := by decide
theorem test_updn_4_well_formed : (Instr.updn 4).wellFormed = true := by decide
theorem test_search_le32_needs_fastmix :
    (Instr.search 0 .le32).allowedUnder .standardDigest = false
    ∧ (Instr.search 0 .le32).allowedUnder .fastMixDigest = true := by decide
theorem test_verify_le32_needs_fastmix :
    (Instr.verify .le32).allowedUnder .standardDigest = false
    ∧ (Instr.verify .le32).allowedUnder .fastMixDigest = true := by decide

/-! ### Decode: the words of §2.7, and fields written out bit by bit -/

theorem test_decode_init : decode 0b00000001000000000000000000000101 = .ok (.init 2 .fastMixDigest) := by decide
theorem test_decode_reset : decode 0b00000010000000000000000000000000 = .ok .reset := by decide
theorem test_decode_upd1 : decode 0b00000011000000000000000001100001 = .ok (.upd1 0x61) := by decide
theorem test_decode_updn : decode 0b00000100000000000000000000000100 = .ok (.updn 4) := by decide
theorem test_decode_digest : decode 0b00000101000000000000000000000000 = .ok .digest := by decide
theorem test_decode_search : decode 0b00000110000000000000000101111111 = .ok (.search 127 .le32) := by decide
theorem test_decode_verify : decode 0b00000111000000000000000100000000 = .ok (.verify .le32) := by decide
theorem test_decode_rejects :
    decode 0x01000008 = .error .reservedBits ∧ decode 0x02000001 = .error .reservedBits
    ∧ decode 0x06000080 = .error .reservedBits ∧ decode 0x07000001 = .error .reservedBits
    ∧ decode 0x08000000 = .error .reservedOpcode ∧ decode 0xFF000000 = .error .reservedOpcode := by decide
theorem test_legal_of_the_table :
    [0x01000002, 0x01000006, 0x04000000, 0x04000005, 0x06000003, 0x06000100, 0x07000000, 0x07000100].map
      (fun w => (legal .standardDigest w, legal .fastMixDigest w))
    = [(true, true), (false, false), (false, false), (false, false),
       (true, true), (false, true), (true, true), (false, true)] := by decide
theorem test_decodeTableWord : decodeTableWord 32 0x06000102 = some (.search 2 .le32)
    ∧ decodeTableWord 32 0x08000000 = none := by decide

/-! ### Digest functions (§2.1 to §2.6) -/

theorem test_sigma_functions :
    smallSigma0 0x12345678 = 0xe7fce6ee ∧ smallSigma1 0x12345678 = 0xa1f78649
    ∧ bigSigma0 0x12345678 = 0x66146474 ∧ bigSigma1 0x12345678 = 0x3561abda := by decide
theorem test_choose_majority :
    chooseWord 0xf0f0f0f0 0xffffffff 0 = 0xf0f0f0f0
    ∧ majorityWord 0xf0f0f0f0 0xcccccccc 0xaaaaaaaa = 0xe8e8e8e8 := by decide
theorem test_schedule_of_abc :
    [0, 15, 16, 17, 18, 63].map ((scheduleStd ([0x61, 0x62, 0x63] ++ padStd 3)).getD · 0)
    = [0x61626380, 0x00000018, 0x61626380, 0x000f0000, 0x7da86405, 0x12b1edeb] := by decide +kernel
theorem test_first_round_of_abc :
    roundStd ivStd (0x428a2f98, 0x61626380)
    = { a := 0x5d6aebcd, b := 0x6a09e667, c := 0xbb67ae85, d := 0x3c6ef372,
        e := 0xfa2a4622, f := 0x510e527f, g := 0x9b05688c, h := 0x1f83d9ab } := by decide +kernel
theorem test_padding_at_the_limit : (padStd (2 ^ 61 - 1)).drop 57
    = [0xff, 0xff, 0xff, 0xff, 0xff, 0xff, 0xff, 0xf8] := by decide +kernel
theorem test_mix : mix 0x0123456789abcdef 0xfedcba9876543210 = (0xa76e2ba71cd5901c, 0xe0471bf9e0471bf9) := by
  decide
theorem test_three_rounds : roundsFm 3 testIv
    = { s0 := 0x00143fe4889cb76c, s1 := 0x704cf62cf8c47ea4,
        s2 := 0xa0a940a3e4ed04e7, s3 := 0x52a8c35616ec8712 } := by decide +kernel
theorem test_fastmix_abc :
    digestWords (digestFrom .fastMixDigest .standard (chainOfS testIv) [0x61, 0x62, 0x63])
    = #v[0x8553ca9f, 0x372d2d9c, 0x415fb361, 0xb640711e, 0xed3091bf, 0x3e8169c7, 0xd1f3a7fb, 0xdf043b07] := by
  decide +kernel
theorem test_suffixes :
    suffixBytes .dec 3582 = [0x33, 0x35, 0x38, 0x32] ∧ suffixBytes .le32 3582 = [0xfe, 0x0d, 0x00, 0x00]
    ∧ suffixBytes .dec 0 = [0x30] ∧ suffixBytes .dec 0x12345678
      = [0x33, 0x30, 0x35, 0x34, 0x31, 0x39, 0x38, 0x39, 0x36] := by decide +kernel

/-! ### Commands (§2.8 to §2.11) -/

theorem test_init_fm_secure :
    nextHas (exec (.init 2 .fastMixDigest) (withPend (shortStream hello []) (.init 2 .fastMixDigest)))
      (fun t => t.configWord == 0x00000005 && t.len == 0 && t.done && !t.busy) = true := by decide +kernel
theorem test_reset_discards_the_buffer :
    nextHas (exec .reset (withPend (shortStream [0x61] []) .reset))
      (fun t => t.configWord == 0x00000002 && t.len == 0 && t.cv == State.reset.cv) = true := by decide +kernel
theorem test_upd1_third_byte :
    nextHas (exec (.upd1 0x63) (withPend (shortStream [0x61, 0x62] []) (.upd1 0x63)))
      (fun t => t.configWord == 0x00000302 && t.len == 3 && t.buf == [0x61, 0x62, 0x63]) = true := by
  decide +kernel
theorem test_updn_takes_the_top_bytes :
    nextHas (exec (.updn 3) (withPend { shortStream [] [] with dataIn := 0x616263FF } (.updn 3)))
      (fun t => t.buf == [0x61, 0x62, 0x63] && t.len == 3) = true := by decide +kernel
theorem test_updn_across_a_block :
    nextHas (exec (.updn 4) (withPend { shortStream (List.replicate 62 0x61) [] with dataIn := 0x61616161 }
        (.updn 4)))
      (fun t => t.configWord == 0x00000202 && t.len == 66 && digestWords t.streamDigest
        == #v[0xac137fce, 0x49837c7c, 0x2945f616, 0x0d3c0e67, 0x9e6f4007, 0x0850420a, 0x22bc10e0, 0x692cbdc7])
      = true := by decide +kernel
theorem test_digest_abc :
    nextHas (exec .digest (withPend (shortStream [0x61, 0x62, 0x63] []) .digest))
      (fun t => t.digestOut
        == #v[0xba7816bf, 0x8f01cfea, 0x414140de, 0x5dae2223, 0xb00361a3, 0x96177a9c, 0xb410ff61, 0xf20015ad])
      = true := by decide +kernel
theorem test_search_found :
    nextHas (exec (.search 3 .dec) (helloSearch 3582 3583 3))
      (fun t => t.statusExact == 0x00000012 && t.resultNonce == 3582 && t.attempts == 1
        && t.digestOut == digest3582 && t.foundOut) = true := by decide +kernel
theorem test_search_not_found :
    nextHas (exec (.search 1 .dec) (helloSearch 0 5 1))
      (fun t => t.statusExact == 0x00000022 && t.resultNonce == 0xFFFFFFFF && t.attempts == 5
        && t.digestOut == Vector.replicate 8 0) = true := by decide +kernel
theorem test_verify_match :
    nextHas (exec (.verify .dec) (helloVerify 3582))
      (fun t => t.statusExact == 0x0000000A && t.digestOut == digest3582) = true := by decide +kernel
theorem test_verify_le32_header :
    nextHas (exec (.verify .le32) (withPend { headerStream with nonceIn := 32 } (.verify .le32)))
      (fun t => t.configWord == 0x00000C03 && !t.matched && t.digestOut
        == #v[0x0035646e, 0xeefb2fb2, 0x348a97e0, 0x6394f6d5, 0x053eab8f, 0xb81a540a, 0x269413b6, 0x3ba352df])
      = true := by decide +kernel

/-! ### Errors, flags, accesses (§2.8, §2.12) -/

theorem test_illegal_word_status :
    nextHas (step (shortStream [] [.hostWrite .word 0x10 0x01000006]))
      (fun t => t.statusExact == 0x00000104 && t.pend == none) = true := by decide +kernel
theorem test_first_error_is_kept :
    nextHas (step { shortStream [] [.hostWrite .word 0x10 0x01000006] with err := true, errCode := .busy })
      (fun t => t.statusExact == 0x00000204) = true := by decide +kernel
theorem test_length_overflow_status :
    nextHas (step (longStream (2 ^ 61 - 1) [.hostWrite .word 0x10 0x03000000]))
      (fun t => t.statusExact == 0x00000304 && t.len == BitVec.ofNat 61 (2 ^ 61 - 1)) = true := by decide +kernel
theorem test_msglen_at_the_limit :
    (longStream (2 ^ 61 - 1) []).regValue .msgLenHi = 0x1FFFFFFF
    ∧ (longStream (2 ^ 61 - 1) []).regValue .msgLenLo = 0xFFFFFFFF := by decide +kernel
theorem test_busy_write_is_refused :
    nextHas (step { helloSearch 0 9 65 with schedule := [.hostWrite .word 0x10 0x05000000] })
      (fun t => t.busy && t.err && t.errCode == .busy && t.pend == (helloSearch 0 9 65).pend) = true := by
  decide +kernel
theorem test_ctrl_masks_the_interrupt :
    nextHas (step { shortStream [] [.hostWrite .word 0x04 0] with done := true, ieDone := true })
      (fun t => !t.irq && t.done) = true := by decide +kernel
theorem test_byte_read_is_a_bus_error :
    faultIs (step (shortStream [] [.hostRead .byte 0x13])) .busErrorWidth = true
    ∧ faultIs (step (shortStream [] [.hostRead .word 0x12])) .busErrorMisaligned = true := by decide +kernel
theorem test_id_reads :
    nextHas (step (shortStream [] [.hostRead .word 0x00])) (fun t => t.readData == 0x534D4801) = true := by
  decide +kernel

/-! ### The fetch and the host's sequences -/

theorem test_withFetchWord_runs_upd1 :
    nextHas (step (State.reset.withFetchWord 32 0x03000061)) (fun t => t.buf == [0x61] && t.done) = true := by
  decide +kernel
theorem test_withFetchWord_takes_the_error_of_updn_0 :
    nextHas (step (State.reset.withFetchWord 32 0x04000000)) (fun t => t.statusExact == 0x00000104) = true := by
  decide +kernel
theorem test_updw_is_its_accesses :
    updw (0, 0) 0x48656C6C = [.hostWrite .word 0x14 0x48656C6C, .engine, .hostRead .word 0x08,
      .hostWrite .word 0x10 0x04000004, .engine, .hostRead .word 0x08] := by decide

/-! ### Witnesses: states and operands that meet the hypotheses of the statements, clause by clause -/

/-- The accept step's checks hold of a pending command where none of them fails. -/
theorem ready_witness {s : State} {i : Instr} {p : Pending} (hp : s.pend = some p) (h : s.refusal i = none) :
    s.ready i p := ⟨hp, State.refusal_eq_none.mp h⟩

/-- The length check fails where it is the reason of a refusal. -/
theorem lengthCheck_witness {s : State} {i : Instr} (h : s.refusal i = some .lengthOverflow) :
    s.lengthCheckFails i := by
  rcases s.refusal_cases i with ⟨_, e⟩ | ⟨_, _, h1, _⟩ | ⟨_, _, _, e⟩
  · rw [e] at h; cases h
  · exact h1
  · rw [e] at h; cases h

/-- It passes where nothing is the reason of a refusal. -/
theorem lengthPass_witness {s : State} {i : Instr} (h : s.refusal i = none) : ¬ s.lengthCheckFails i :=
  (State.refusal_eq_none.mp h).2.2

/-- The header stream with the operands of §2.10 and the command pending. -/
def headerSearch : State := withPend { headerStream with maxNonce := 0x100000 } (.search 2 .le32)

/-- A StandardDigest stream one byte below the limit, with UPD1 pending and 63 bytes in the buffer. -/
def upd1AtTheLimit (buffered : Nat) : State :=
  withPend { longStream (2 ^ 61 - 2) [] with buf := List.replicate buffered 0x61 } (.upd1 0)

/-- UPDN pending where its bytes end exactly at the limit. -/
def updnAtTheLimit (n : BitVec 3) : State := withPend (longStream (2 ^ 61 - 1 - n.toNat) []) (.updn n)

theorem witness_EncodeOfDecodeIsTheWord : decode 0x0600017F = .ok (.search 127 .le32) := by decide

theorem witness_LegalWordsAreThoseOfTheRule :
    (shortStream [] [.hostWrite .word 0x10 0x07000100]).pend = none
    ∧ legal (shortStream [] [.hostWrite .word 0x10 0x07000100]).variant 0x07000100 = false := by decide +kernel

theorem witness_StepRunsThePendingCommand :
    ((withPend (shortStream [] []) (.updn 0)).pend
      = some ((shortStream [] []).latched 0x04000000) ∧ decode 0x04000000 = .ok (.updn 0)
      ∧ (withPend (shortStream [] []) (.updn 0)).schedule = [])
    ∧ (withPend (shortStream [] [.engine]) .digest).schedule = [.engine]
    ∧ (shortStream [] []).pend = none ∧ (shortStream [] [.engine]).schedule = [.engine] := by decide +kernel

theorem witness_AcceptStepChecksThenLatches_busy :
    (withPend (shortStream [] [.hostWrite .word 0x10 0x05000000]) .digest).pend ≠ none := by decide +kernel
theorem witness_AcceptStepChecksThenLatches_illegal : legal .standardDigest 0x01000006 = false := by decide
theorem witness_AcceptStepChecksThenLatches_length :
    legalCommand .standardDigest 0x06000001 = some (.search 1 .dec)
    ∧ (longStream (2 ^ 61 - 10) []).lengthCheckFails (.search 1 .dec)
    ∧ ¬ (longStream (2 ^ 61 - 11) []).lengthCheckFails (.search 1 .dec) :=
  ⟨by decide, lengthCheck_witness (by decide +kernel), lengthPass_witness (by decide +kernel)⟩
theorem witness_AcceptStepChecksThenLatches_other :
    legalCommand .standardDigest 0x03000000 = some (.upd1 0)
    ∧ (longStream (2 ^ 61 - 1) []).lengthCheckFails (.upd1 0)
    ∧ ¬ (longStream (2 ^ 61 - 2) []).lengthCheckFails (.upd1 0) :=
  ⟨by decide, lengthCheck_witness (by decide +kernel), lengthPass_witness (by decide +kernel)⟩

theorem witness_EveryAcceptedCommandCompletes :
    (longStream (2 ^ 61 - 2) [.hostWrite .word 0x10 (encode (.upd1 0))]).pend = none
    ∧ ¬ (longStream (2 ^ 61 - 2) [.hostWrite .word 0x10 (encode (.upd1 0))]).lengthCheckFails (.upd1 0)
    ∧ (Instr.upd1 0).allowedUnder .standardDigest = true :=
  ⟨rfl, lengthPass_witness (by decide +kernel), rfl⟩

theorem witness_StepStopsOnlyAtRefusedBusAccesses :
    step (shortStream [] [.hostRead .wide 0x00]) = .fault .busErrorWidth
    ∧ step (shortStream [] [.hostWrite .word 0x7E 0]) = .fault .busErrorMisaligned
    ∧ step (shortStream [] [.hostRead .word 0x80]) = .fault .outsideWindow :=
  ⟨faultIs_witness (by decide +kernel), faultIs_witness (by decide +kernel), faultIs_witness (by decide +kernel)⟩

theorem witness_BusAccessesPerformedOrFaulted :
    ∃ t, step (shortStream [] [.hostRead .word 0x7C]) = .next t ∧ (t.readData == 0) = true :=
  nextHas_witness (by decide +kernel)

theorem witness_IdleReadsGiveTheRegisterValues :
    (shortStream (List.replicate 63 0) [.hostRead .word 0x0C]).buf.length < 64
    ∧ nextHas (step (shortStream (List.replicate 63 0) [.hostRead .word 0x0C]))
        (fun t => t.readData == 0x00003F02) = true
    ∧ nextHas (step { helloVerify 0 with pend := none, schedule := [.hostRead .word 0x7C] })
        (fun t => t.readData == 0xa1d63787) = true := by decide +kernel

theorem witness_BusyReadsAreExactOrDrawn :
    ({ helloVerify 0 with schedule := [.hostRead .word 0x5C] } : State).pend ≠ none
    ∧ ({ helloVerify 0 with schedule := [.hostRead .word 0x08] } : State).pend ≠ none := by decide +kernel

theorem witness_WritesToReadOnlyOffsetsAreIgnored :
    nextHas (step (shortStream [] [.hostWrite .word 0x00 7])) (fun t => t.regValue .id == 0x534D4801) = true
    ∧ nextHas (step (shortStream [] [.hostWrite .word 0x5C 7])) (fun t => t.digestOut == Vector.replicate 8 0)
      = true := by decide +kernel

theorem witness_OperandRegisterWritesTakeEffectAtOnce :
    nextHas (step (shortStream [] [.hostWrite .word 0x14 7])) (fun t => t.dataIn == 7) = true
    ∧ nextHas (step (shortStream [] [.hostWrite .word 0x18 7])) (fun t => t.nonceStart == 7) = true
    ∧ nextHas (step (shortStream [] [.hostWrite .word 0x1C 7])) (fun t => t.maxNonce == 7) = true
    ∧ nextHas (step (shortStream [] [.hostWrite .word 0x20 7])) (fun t => t.nonceIn == 7) = true
    ∧ nextHas (step (shortStream [] [.hostWrite .word 0x7C 7])) (fun t => t.expect[7] == 7) = true := by
  decide +kernel

theorem witness_CtrlWriteSetsEnablesAndCancels :
    nextHas (step { helloSearch 0 9 65 with schedule := [.hostWrite .word 0x04 6] })
      (fun t => t.cancelReq && t.ieErr && !t.ieDone) = true
    ∧ nextHas (step (shortStream [] [.hostWrite .word 0x04 5])) (fun t => !t.cancelReq && t.ieDone) = true := by
  decide +kernel

theorem witness_StatusWriteAcknowledges :
    nextHas (step { shortStream [] [.hostWrite .word 0x08 4] with done := true, err := true, errCode := .busy })
      (fun t => t.done && !t.err && t.errCode == .none) = true := by decide +kernel

/-- A state whose pending command is legal. -/
theorem pendingLegal_witness {s : State} {p : Pending} {i : Instr} (hp : s.pend = some p)
    (hl : legalCommand s.variant p.word = some i) (hr : s.refusal i = none) : s.pendingLegal := by
  intro q hq
  rw [hp] at hq
  cases hq
  exact ⟨i, hl, lengthPass_witness hr⟩

theorem idle_pendingLegal_witness {s : State} (hp : s.pend = none) : s.pendingLegal := by
  intro q hq
  rw [hp] at hq
  cases hq

theorem witness_StatusFlagLifetimes_flags :
    (helloVerify 3582).ready (.verify .dec) ((shortStream hello []).latched 0x07000000
      |> fun p => { p with nonceIn := 3582, expect := digest3582 })
    ∧ ∃ t, exec (.verify .dec) (helloVerify 3582) = .next t ∧ t.matched = true :=
  ⟨ready_witness (by decide +kernel) (by decide +kernel), nextHas_witness (by decide +kernel)⟩
theorem witness_StatusFlagLifetimes_completion :
    (helloVerify 3582).pendingLegal
    ∧ ∃ t, step (helloVerify 3582) = .next t ∧ (!t.busy && t.done && t.matched) = true :=
  ⟨pendingLegal_witness (i := .verify .dec) rfl (by decide) (by decide +kernel),
    nextHas_witness (by decide +kernel)⟩
theorem witness_StatusFlagLifetimes_acceptance :
    (shortStream [] [.hostWrite .word 0x10 0x07000000]).pendingLegal
    ∧ ∃ t, step { shortStream [] [.hostWrite .word 0x10 0x07000000] with matched := true } = .next t
        ∧ (t.busy && !t.matched) = true :=
  ⟨idle_pendingLegal_witness rfl, nextHas_witness (by decide +kernel)⟩
theorem witness_StatusFlagLifetimes_refusal_and_acknowledgement :
    nextHas (step (shortStream [] [.hostWrite .word 0x10 0])) (fun t => t.err && t.errCode == .illegalCmd) = true
    ∧ nextHas (step { shortStream [] [.hostWrite .word 0x08 6] with done := true, err := true })
        (fun t => !t.done && !t.err) = true
    ∧ nextHas (step { shortStream [] [.platformReset] with done := true, err := true, result := .found })
        (fun t => !t.done && !t.err && t.result == .none) = true := by decide +kernel

theorem witness_OnlyInitAndResetChangeVariantAndMode :
    nextHas (step (withPend (shortStream [] []) (.init 2 .fastMixDigest)))
      (fun t => t.variant == .fastMixDigest && t.mode == .secure) = true
    ∧ nextHas (step { shortStream [] [.platformReset] with variant := .fastMixDigest })
      (fun t => t.variant == .standardDigest) = true := by decide +kernel

theorem witness_ResultRegistersWrittenByTheirCommandsAlone :
    nextHas (step (helloSearch 3582 3583 3)) (fun t => t.attempts == 1 && t.digestOut == digest3582) = true
    ∧ nextHas (step { shortStream [] [.platformReset] with attempts := 7 }) (fun t => t.attempts == 0) = true := by
  decide +kernel

theorem witness_OperandRegistersMayBeReusedAfterAcceptance_running :
    ∃ t, exec (.updn 4) (updnAtTheLimit 4) = .next t ∧ t.done = true := nextHas_witness (by decide +kernel)
theorem witness_OperandRegistersMayBeReusedAfterAcceptance_accepted :
    (shortStream [] []).pend = none
    ∧ (((shortStream [] []).hostWrite (.expect 7) 9).hostWrite .cmd 0x07000000).pend
      = some { (shortStream [] []).latched 0x07000000 with expect := (Vector.replicate 8 0).set 7 9 } := by
  decide +kernel

theorem witness_PaddingReachesAWholeNumberOfBlocks :
    ((0 : Nat) < 64 ∧ ((List.replicate 55 (0 : Byte)).length + 1 + 0 + 8) % 64 = 0)
    ∧ ((63 : Nat) < 64 ∧ ((List.replicate 56 (0 : Byte)).length + 1 + 63 + 8) % 64 = 0)
    ∧ (2 ^ 61 - 1 : Nat) ≤ 2 ^ 61 - 1 := by decide +kernel

theorem witness_WholeMessages : hello.length ≤ 2 ^ 61 - 1 ∧ headerPrefix.length ≤ 2 ^ 61 - 1 := by decide +kernel

theorem witness_FastMixDigestOfAWholeMessage :
    (∀ j < 4, be64 (List.replicate 64 0x61) (8 * j) = be64 (List.replicate 64 0x61) (8 * (j + 4)))
    ∧ (List.replicate 63 (0x61 : Byte)).length ≤ 63 ∧ ([] : List Byte).length ≤ 63 := by decide +kernel

theorem witness_FastMixCollisionsOfTheRule :
    (List.replicate 124 (0x61 : Byte)).length % 64 + 3 ≤ 63
    ∧ ∀ j < 4, be64 (List.replicate 64 0x61) (8 * j) = be64 (List.replicate 64 0x61) (8 * (j + 4)) := by
  decide +kernel

theorem witness_AbsorbIsChunkingInvariant :
    (List.replicate 63 (0 : Byte)).length < 64
    ∧ (absorb .standardDigest .fast (0, List.replicate 63 0) [0]).2 = [] := by decide +kernel

theorem witness_InitStartsAFreshStream :
    (withPend (shortStream hello []) (.init 2 .standardDigest)).pend
      = some ((shortStream hello []).latched 0x01000004) ∧ (2 : BitVec 2) ≠ 3 := by decide +kernel
theorem witness_ResetCommandRestartsTheStream :
    (withPend headerStream .reset).pend = some (headerStream.latched 0x02000000) := by decide +kernel
theorem witness_Upd1AbsorbsItsByte :
    ((upd1AtTheLimit 63).pend.isSome ∧ (upd1AtTheLimit 63).len.toNat + 1 ≤ 2 ^ 61 - 1
      ∧ (upd1AtTheLimit 63).buf.length = 63)
    ∧ (upd1AtTheLimit 62).pend.isSome ∧ (upd1AtTheLimit 62).buf.length < 63 := by decide +kernel
theorem witness_UpdnAbsorbsTheFirstBytesOfDataIn :
    ((updnAtTheLimit 1).pend.isSome ∧ (updnAtTheLimit 1).len.toNat + 1 ≤ 2 ^ 61 - 1)
    ∧ (updnAtTheLimit 4).pend.isSome ∧ (updnAtTheLimit 4).len.toNat + 4 ≤ 2 ^ 61 - 1 := by decide +kernel
theorem witness_DigestWritesTheStreamDigest :
    (withPend (longStream (2 ^ 61 - 1) []) .digest).pend.isSome := by decide +kernel
theorem witness_DigestSearchVerifyLeaveTheStream :
    (∃ t, exec .digest (withPend (shortStream hello []) .digest) = .next t ∧ (t.buf == hello) = true)
    ∧ (∃ t, exec (.search 3 .dec) (helloSearch 3582 3583 3) = .next t ∧ (t.buf == hello) = true)
    ∧ (∃ t, exec (.verify .dec) (helloVerify 0) = .next t ∧ (t.buf == hello) = true)
    ∧ ∃ t, exec .digest (withPend (shortStream hello []) .digest) = .next t
        ∧ nextHas (exec .digest (withPend t .digest)) (fun u => u.digestOut == t.digestOut) = true :=
  ⟨nextHas_witness (by decide +kernel), nextHas_witness (by decide +kernel), nextHas_witness (by decide +kernel),
    nextHas_witness (by decide +kernel)⟩
theorem witness_ModeIsIgnoredUnderStandardDigest :
    (helloVerify 0).variant = .standardDigest ∧ ∃ t, exec (.verify .dec) (helloVerify 0) = .next t
      ∧ (!t.matched) = true := ⟨rfl, nextHas_witness (by decide +kernel)⟩

theorem witness_LengthLimitRefusesAtTheBound :
    (longStream (2 ^ 61 - 1) []).len.toNat + 1 > 2 ^ 61 - 1
    ∧ (longStream (2 ^ 61 - 2) []).len.toNat + 1 ≤ 2 ^ 61 - 1
    ∧ (longStream (2 ^ 61 - 4) []).len.toNat + 4 > 2 ^ 61 - 1
    ∧ (longStream (2 ^ 61 - 5) []).len.toNat + 4 ≤ 2 ^ 61 - 1
    ∧ (longStream (2 ^ 61 - 10) []).len.toNat + 10 > 2 ^ 61 - 1
    ∧ (longStream (2 ^ 61 - 11) []).len.toNat + 10 ≤ 2 ^ 61 - 1
    ∧ (Instr.search 1 .le32).allowedUnder .fastMixDigest = true ∧ (longStream 0 []).pend = none := by decide +kernel

theorem witness_MeaningsOfRefusedFormsRecordTheirError :
    (Instr.init 3 .standardDigest).wellFormed = false ∧ (Instr.updn 5).wellFormed = false
    ∧ (Instr.verify .le32).allowedUnder (helloVerify 0).variant = false
    ∧ (withPend (longStream (2 ^ 61 - 1) []) (.upd1 0)).lengthCheckFails (.upd1 0)
    ∧ (shortStream [] []).pend = none :=
  ⟨by decide, by decide, by decide, lengthCheck_witness (by decide +kernel), rfl⟩

theorem witness_SuffixesAreDecimalTextOrLittleEndian : (4294967295 : Word32) ≠ 0
    ∧ 0x34 ∈ suffixBytes .dec 4294967295 := by decide +kernel
theorem witness_PrefixPredicate : (List.replicate 32 (0 : Byte)).length = 32
    ∧ prefixZero (List.replicate 32 0) 64 = true ∧ prefixZero (List.replicate 32 0) 65 = false := by decide +kernel

/-! SEARCH and VERIFY: the hypotheses of their statements, and each outcome. -/

theorem witness_Search_ready :
    (helloSearch 3582 3583 3).ready (.search 3 .dec)
      { (shortStream hello []).latched 0x06000003 with nonceStart := 3582, maxNonce := 3583 }
    ∧ headerSearch.ready (.search 2 .le32) { headerStream.latched 0x06000102 with maxNonce := 0x100000 } :=
  ⟨ready_witness (by decide +kernel) (by decide +kernel), ready_witness (by decide +kernel) (by decide +kernel)⟩
theorem witness_Search_found :
    ∃ t, exec (.search 2 .le32) headerSearch = .next t
      ∧ (t.result == .found && t.resultNonce == 32 && t.attempts == 33) = true :=
  nextHas_witness (by decide +kernel)
theorem witness_Search_notFound :
    ∃ t, exec (.search 1 .dec) (helloSearch 0 5 1) = .next t ∧ (t.result == .notFound) = true :=
  nextHas_witness (by decide +kernel)
/-- CANCELLED is the outcome where the draw asks for it: no proof can learn a draw. -/
theorem witness_Search_cancelled (h : Config.freeWord 0 1 = 3) :
    ({ helloSearch 0 5 1 with cancelReq := true } : State).searchOutcome 1 .dec
      { (shortStream hello []).latched 0x06000001 with maxNonce := 5 } = .cancelled 3 := by
  have hd : ({ helloSearch 0 5 1 with cancelReq := true } : State).drawAfter 1 = Config.freeWord 0 1 := rfl
  unfold State.searchOutcome
  rw [hd, h]
  decide +kernel
theorem witness_SearchCornerCases :
    (∃ t, exec (.search 1 .dec) (helloSearch 5 5 1) = .next t ∧ (t.result == .notFound && t.attempts == 0) = true)
    ∧ (∃ t, exec (.search 0 .dec) (helloSearch 0xFFFFFFFE 0xFFFFFFFF 0) = .next t
        ∧ (t.result == .found && t.resultNonce == 0xFFFFFFFE && t.attempts == 1) = true)
    ∧ (∃ t, exec (.search 65 .dec) (helloSearch 0 5 65) = .next t
        ∧ (t.result == .notFound && t.attempts == 5) = true)
    ∧ (helloSearch 0 5 65).cancelReq = false :=
  ⟨nextHas_witness (by decide +kernel), nextHas_witness (by decide +kernel), nextHas_witness (by decide +kernel),
    rfl⟩
theorem witness_CancelInputReachesAPendingSearch :
    nextHas (step { helloSearch 0 5 1 with schedule := [.platformCancelIn true] }) (fun t => t.cancelReq) = true
    ∧ nextHas (step { helloVerify 0 with schedule := [.platformCancelIn true] })
        (fun t => t.cancelIn && !t.cancelReq) = true := by decide +kernel
theorem witness_Verify_ready :
    (helloVerify 3582).ready (.verify .dec)
      { (shortStream hello []).latched 0x07000000 with nonceIn := 3582, expect := digest3582 } :=
  ready_witness (by decide +kernel) (by decide +kernel)
theorem witness_VerifyOfAFoundNonceMatches :
    ∃ t, exec (.search 3 .dec) (helloSearch 3582 3583 3) = .next t
      ∧ (t.result == .found && t.resultNonce == 3582 && t.digestOut == digest3582) = true :=
  nextHas_witness (by decide +kernel)
theorem holdsStream_witness (m : List Byte) (h : m.length < 64) (events : List Event) :
    (shortStream m events).holdsStream m ↔
      absorb .standardDigest .standard (initChain .standardDigest, []) m = (chainOfH ivStd, m) := by
  have h61 : (BitVec.ofNat 61 m.length).toNat = m.length := by simp; omega
  simp [State.holdsStream, shortStream, State.reset, h61]
  omega
theorem witness_CandidateIsTheDigestOfBaseAndSuffix : (shortStream hello []).holdsStream hello :=
  (holdsStream_witness hello (by decide) []).mpr (by decide +kernel)

/-! Outputs, reset, instances, invariants. -/

theorem witness_InterruptFollowsEnabledFlags :
    nextHas (exec .digest { withPend (shortStream [] []) .digest with ieDone := true }) (fun t => t.irq) = true
    ∧ nextHas (step { shortStream [] [.hostWrite .word 0x10 0] with ieErr := true }) (fun t => t.irq) = true
    ∧ nextHas (step { shortStream [] [.hostWrite .word 0x04 4] with done := true, ieDone := true })
        (fun t => !t.irq && t.done) = true := by decide +kernel
theorem searchRecord_witness : (helloSearch 3582 3583 3).RecordInv where
  errorCode := by decide
  cancel := by decide
  foundNonce := by decide
  sentinel := by decide
  oneOutcome := by decide
  cleared := fun _ _ _ => ⟨rfl, rfl⟩
theorem foundRecord_witness :
    ({ shortStream [] [.hostWrite .word 0x10 0x07000000] with result := .found, resultNonce := 9 } : State).RecordInv
    where
  errorCode := by decide
  cancel := by decide
  foundNonce := by decide
  sentinel := by decide
  oneOutcome := by decide
  cleared := fun _ h => by cases h
theorem witness_FoundOutRisesAndFalls :
    ((helloSearch 3582 3583 3).pendingLegal ∧ (helloSearch 3582 3583 3).foundOut = false
      ∧ ∃ t, step (helloSearch 3582 3583 3) = .next t ∧ t.foundOut = true)
    ∧ ∃ t, step { shortStream [] [.hostWrite .word 0x10 0x07000000] with result := .found, resultNonce := 9 }
        = .next t ∧ (!t.foundOut) = true :=
  ⟨⟨pendingLegal_witness (i := .search 3 .dec) rfl (by decide) (by decide +kernel), rfl,
    nextHas_witness (by decide +kernel)⟩, nextHas_witness (by decide +kernel)⟩
theorem witness_ResetStateOfTheRule :
    State.resets { helloSearch 0 9 1 with schedule := [.platformReset] }
    ∧ ∃ t, step { helloSearch 0 9 1 with schedule := [.platformReset] } = .next t ∧ (t.pend == none) = true :=
  ⟨rfl, nextHas_witness (by decide +kernel)⟩
theorem witness_InstancesAreIndependent :
    ∃ sys', System.stepAt { instances := [State.reset, shortStream [] [.hostWrite .word 0x14 7], State.reset] } 1
      = .next sys' ∧ sys'.instances.length = 3 := ⟨_, rfl, rfl⟩
theorem witness_InstancesAreIndependent_indices : 0 < Config.numEngines := Nat.succ_pos _
theorem witness_StepKeepsTheStreamInvariant :
    (withPend (shortStream hello []) (.upd1 0x30)).StreamInv
    ∧ (withPend (shortStream hello []) (.upd1 0x30)).completes (.upd1 0x30)
    ∧ ∃ t, step (withPend (shortStream hello []) (.upd1 0x30)) = .next t ∧ (t.buf == hello ++ [0x30]) = true :=
  ⟨⟨⟨hello, witness_CandidateIsTheDigestOfBaseAndSuffix⟩,
      pendingLegal_witness (i := .upd1 0x30) rfl (by decide) (by decide +kernel)⟩,
    ⟨.inl rfl, _, by decide, ready_witness rfl (by decide +kernel)⟩, nextHas_witness (by decide +kernel)⟩
theorem witness_StepKeepsTheStreamInvariant_restart_and_updn :
    (withPend (shortStream hello []) .reset).completes .reset
    ∧ (withPend (shortStream hello []) (.updn 4)).completes (.updn 4)
    ∧ (withPend (shortStream hello []) .digest).completes .digest :=
  ⟨⟨.inl rfl, _, by decide, ready_witness rfl (by decide +kernel)⟩,
    ⟨.inl rfl, _, by decide, ready_witness rfl (by decide +kernel)⟩,
    ⟨.inl rfl, _, by decide, ready_witness rfl (by decide +kernel)⟩⟩
theorem witness_StepKeepsTheRecordInvariant :
    (helloSearch 3582 3583 3).RecordInv
    ∧ ∃ t, step (helloSearch 3582 3583 3) = .next t ∧ (t.result == .found) = true :=
  ⟨searchRecord_witness, nextHas_witness (by decide +kernel)⟩

end Sys2Proof.Tests
end

section
/-! SUPPORT. What one step can do, as one case analysis over the events that the statements of 10_state.md name: the
completion of a command, an acceptance, a refusal, an acknowledgement, a hardware reset, and everything else. -/

namespace Sys2Proof.Machine

/-! ### The events of a step exclude each other -/

section Events

variable {s : State} {i j : Instr} {c d v : Word32} {o : Nat}

theorem State.writes.not_completes (h : s.writes o v) : ¬ s.completes i := by
  rintro ⟨hs | hs, -⟩ <;> simp [State.writes, hs] at h

theorem State.writes.not_resets (h : s.writes o v) : ¬ s.resets := by
  intro hr
  cases h.symm.trans hr

theorem State.resets.not_completes (h : s.resets) : ¬ s.completes i := by
  rintro ⟨hs | hs, -⟩ <;> simp [State.resets, hs] at h

/-- One step writes one word to one offset. -/
theorem State.writes.unique {o' : Nat} (h : s.writes o v) (h' : s.writes o' c) : o' = o ∧ c = v := by
  have := h'.symm.trans h
  simpa using this

theorem State.writes.exists_iff (h : s.writes o v) (P : Word32 → Prop) : (∃ u, s.writes o u ∧ P u) ↔ P v :=
  ⟨fun ⟨_, hu, hP⟩ => (h.unique hu).2 ▸ hP, fun hP => ⟨v, h, hP⟩⟩

theorem State.completes.unique (h : s.completes i) (h' : s.completes j) : j = i := by
  obtain ⟨-, p, hd, hp, -⟩ := h
  obtain ⟨-, q, hd', hq, -⟩ := h'
  cases hp.symm.trans hq
  cases hd.symm.trans hd'
  rfl

theorem State.accepts.unique (h : s.accepts i c) (h' : s.accepts j d) : j = i := by
  obtain ⟨hw, -, hl, -⟩ := h
  obtain ⟨hw', -, hl', -⟩ := h'
  obtain ⟨-, rfl⟩ := hw.unique hw'
  exact Option.some.inj (hl'.symm.trans hl)

/-- A CMD write is accepted or refused, not both. -/
theorem State.accepts.not_refusesCommand (h : s.accepts i c) : ¬ s.refusesCommand := by
  obtain ⟨hw, hp, hl, hlen⟩ := h
  rintro ⟨c', hw', hr⟩
  obtain ⟨-, rfl⟩ := hw.unique hw'
  rcases hr with hr | hr | ⟨j, hl', hlen'⟩
  · exact hr hp
  · rw [legal_eq_false, hl] at hr
    cases hr
  · cases hl.symm.trans hl'
    exact hlen hlen'

theorem State.refusesCommand.exists_writes (h : s.refusesCommand) : ∃ c, s.writes 0x10 c :=
  let ⟨c, hw, _⟩ := h
  ⟨c, hw⟩

theorem State.completes.not_writes (h : s.completes i) (o : Nat) (v : Word32) : ¬ s.writes o v :=
  fun hw => hw.not_completes h

theorem State.completes.not_resets (h : s.completes i) : ¬ s.resets :=
  fun hr => hr.not_completes h

theorem State.completes.not_accepts (h : s.completes i) (j : Instr) (c : Word32) : ¬ s.accepts j c :=
  fun ha => ha.1.not_completes h

theorem State.completes.not_refusesCommand (h : s.completes i) : ¬ s.refusesCommand :=
  fun ⟨_, hw, _⟩ => hw.not_completes h

theorem State.resets.not_writes (h : s.resets) (o : Nat) (v : Word32) : ¬ s.writes o v :=
  fun hw => hw.not_resets h

theorem State.resets.not_accepts (h : s.resets) (j : Instr) (c : Word32) : ¬ s.accepts j c :=
  fun ha => ha.1.not_resets h

theorem State.resets.not_refusesCommand (h : s.resets) : ¬ s.refusesCommand :=
  fun ⟨_, hw, _⟩ => hw.not_resets h

theorem State.accepts.not_writes_status (h : s.accepts i c) (v : Word32) : ¬ s.writes 0x08 v :=
  fun hw => absurd (h.1.unique hw).1 (by decide)

theorem State.refusesCommand.not_writes_status (h : s.refusesCommand) (v : Word32) : ¬ s.writes 0x08 v :=
  fun hw => let ⟨_, hc, _⟩ := h; absurd (hc.unique hw).1 (by decide)

theorem State.refusesCommand.not_completes (h : s.refusesCommand) (i : Instr) : ¬ s.completes i :=
  fun hc => hc.not_refusesCommand h

theorem State.refusesCommand.not_resets (h : s.refusesCommand) : ¬ s.resets :=
  fun hr => hr.not_refusesCommand h

end Events

/-! ### One case per event -/

/-- What a step that is none of the named events keeps: the engine state, the pending command, the flags of STATUS
and the registers that a completion writes. -/
structure State.KeepsEngine (s t : State) : Prop where
  variant : t.variant = s.variant
  mode : t.mode = s.mode
  cv : t.cv = s.cv
  buf : t.buf = s.buf
  len : t.len = s.len
  pend : t.pend = s.pend
  done : t.done = s.done
  err : t.err = s.err
  matched : t.matched = s.matched
  result : t.result = s.result
  errCode : t.errCode = s.errCode
  resultNonce : t.resultNonce = s.resultNonce
  attempts : t.attempts = s.attempts
  elapsed : t.elapsed = s.elapsed
  digestOut : t.digestOut = s.digestOut

/-- The next step is none of the named events. -/
structure State.NoEvent (s : State) : Prop where
  not_completes : ∀ i, ¬ s.completes i
  not_writes_cmd : ∀ c, ¬ s.writes 0x10 c
  not_writes_status : ∀ v, ¬ s.writes 0x08 v
  not_resets : ¬ s.resets

theorem State.NoEvent.not_accepts {s : State} (h : s.NoEvent) (i : Instr) (c : Word32) : ¬ s.accepts i c :=
  fun ha => h.not_writes_cmd c ha.1

theorem State.NoEvent.not_refusesCommand {s : State} (h : s.NoEvent) : ¬ s.refusesCommand :=
  fun hr => let ⟨c, hw⟩ := hr.exists_writes; h.not_writes_cmd c hw

/-- The event of a step from `s` to `t`, with what it does to the state. -/
inductive StepEvent (s t : State) : Prop where
  | completion (i : Instr) (p : Pending) (rest : List Event) (hc : s.completes i) (hp : s.pend = some p)
      (ht : t = (effectOf i (s.withSchedule rest) p).finish)
  | acceptance (i : Instr) (c : Word32) (rest : List Event) (ha : s.accepts i c)
      (ht : t = (s.withSchedule rest).latchCommand i c)
  | refusal (code : ErrCode) (rest : List Event) (hr : s.refusesCommand)
      (ht : t = (s.withSchedule rest).raiseErr code)
  | acknowledgement (v : Word32) (rest : List Event) (hw : s.writes 0x08 v)
      (ht : t = (s.withSchedule rest).clearStatus v)
  | reset (rest : List Event) (hr : s.resets) (ht : t = (s.withSchedule rest).hardwareReset)
  | other (hn : s.NoEvent) (ht : s.KeepsEngine t)

section Classification

variable {s t : State} {rest : List Event}

theorem State.withSchedule_self (s : State) : s.withSchedule s.schedule = s := rfl

theorem State.pendingLegal.exists_ready {p : Pending} (h : s.pendingLegal) (hp : s.pend = some p) :
    ∃ i, decode p.word = .ok i ∧ s.ready i p := by
  obtain ⟨i, hl, hlen⟩ := h p hp
  obtain ⟨hd, hw, ha⟩ := legalCommand_eq_some.mp hl
  exact ⟨i, hd, hp, hw, ha, hlen⟩

/-- The engine's step of a state whose pending command is legal: it is idle, or it completes the command. -/
theorem stepEvent_of_engineStep (hl : s.pendingLegal) (hm : s.engineMoves)
    (h : engineStep (s.withSchedule rest) = .next t) : StepEvent s t := by
  cases hp : s.pend with
  | none =>
    rw [engineStep, State.withSchedule_pend, hp] at h
    cases h
    refine .other ⟨?_, ?_, ?_, ?_⟩ (by constructor <;> simp)
    · rintro i ⟨-, p, -, hp', -⟩
      cases hp.symm.trans hp'
    all_goals rcases hm with hm | hm <;> simp [State.writes, State.resets, hm]
  | some p =>
    obtain ⟨i, hd, hr⟩ := hl.exists_ready hp
    have he : engineStep (s.withSchedule rest) = exec i (s.withSchedule rest) := by
      rw [engineStep, State.withSchedule_pend, hp]
      simp only [hd]
    rw [he, exec_ready (s := s.withSchedule rest) hr] at h
    cases h
    exact .completion i p rest ⟨hm, p, hd, hr⟩ hp rfl

theorem stepEvent_of_cmdWrite {c : Word32} (hs : s.schedule = .hostWrite .word 0x10 c :: rest) :
    StepEvent s ((s.withSchedule rest).acceptCommand c) := by
  have hw : s.writes 0x10 c := by simp [State.writes, hs]
  rcases (s.withSchedule rest).acceptCommand_cases c with ⟨hp, e⟩ | ⟨hp, hl, e⟩ | ⟨hp, i, hl, hlen, e⟩
    | ⟨hp, i, hl, hlen, e⟩
  · exact .refusal _ rest ⟨c, hw, .inl hp⟩ e
  · exact .refusal _ rest ⟨c, hw, .inr (.inl (legal_eq_false.mpr hl))⟩ e
  · exact .refusal _ rest ⟨c, hw, .inr (.inr ⟨i, hl, hlen⟩)⟩ e
  · exact .acceptance i c rest ⟨hw, hp, hl, hlen⟩ e

/-- A host write to a register other than CMD and STATUS changes no engine state, flag or result register. -/
theorem State.hostWrite_keepsEngine {r : Reg} (hc : r ≠ .cmd) (hst : r ≠ .status) (v : Word32) :
    s.KeepsEngine (s.hostWrite r v) := by
  cases r with
  | cmd => exact absurd rfl hc
  | status => exact absurd rfl hst
  | _ => constructor <;> rfl

theorem State.KeepsEngine.of_withSchedule (h : (s.withSchedule rest).KeepsEngine t) : s.KeepsEngine t := by
  obtain ⟨_⟩ := h
  constructor <;> assumption

/-- A step whose agent is neither the engine nor the reset input, and whose write, if it is one, reaches neither CMD
nor STATUS, is none of the named events. -/
theorem State.noEvent_of_schedule {e : Event} (hs : s.schedule = e :: rest) (he : e ≠ .engine)
    (hr : e ≠ .platformReset) (hw : ∀ o v, e = .hostWrite .word o v → o ≠ 0x10 ∧ o ≠ 0x08) : s.NoEvent := by
  refine ⟨?_, ?_, ?_, ?_⟩
  · rintro i ⟨hm | hm, -⟩ <;> simp_all
  · intro c hc
    exact (hw 0x10 c (by simpa [State.writes, hs] using hc)).1 rfl
  · intro c hc
    exact (hw 0x08 c (by simpa [State.writes, hs] using hc)).2 rfl
  · simpa [State.resets, hs] using hr

/-- Every step from a state whose pending command is legal is one of the named events, or none of them and keeps the
engine. -/
theorem stepEvent_of_step (hl : s.pendingLegal) (h : step s = .next t) : StepEvent s t := by
  rcases step_next_cases h with ⟨hm, s0, h0, he⟩ | ⟨o, rest, r, hs, -, rfl⟩ | ⟨o, v, rest, r, hs, hr, rfl⟩
    | ⟨rest, hs, rfl⟩ | ⟨level, rest, hs, rfl⟩
  · rcases h0 with h0 | ⟨rest, -, rfl⟩
    · rw [h0, ← s.withSchedule_self] at he
      exact stepEvent_of_engineStep hl hm he
    · exact stepEvent_of_engineStep hl hm he
  · exact .other (State.noEvent_of_schedule hs (by simp) (by simp) (by simp)) (by constructor <;> simp)
  · by_cases hcmd : r = .cmd
    · subst hcmd
      obtain rfl := regAt_cmd.mp hr
      exact stepEvent_of_cmdWrite hs
    by_cases hst : r = .status
    · subst hst
      obtain rfl := regAt_status.mp hr
      exact .acknowledgement v rest (by simp [State.writes, hs]) rfl
    refine .other (State.noEvent_of_schedule hs (by simp) (by simp) ?_)
      (State.hostWrite_keepsEngine hcmd hst v).of_withSchedule
    rintro o' v' ⟨⟩
    exact ⟨fun h0 => hcmd (Option.some.inj (hr.symm.trans (regAt_cmd.mpr h0))),
      fun h0 => hst (Option.some.inj (hr.symm.trans (regAt_status.mpr h0)))⟩
  · exact .reset rest (by simp [State.resets, hs]) rfl
  · exact .other (State.noEvent_of_schedule hs (by simp) (by simp) (by simp)) (by constructor <;> simp)

end Classification

end Sys2Proof.Machine
end

section
/-! SUPPORT. The stream that the engine has absorbed (10_state.md R22), over every step: O59. -/

namespace Sys2Proof.Machine

/-! ### The absorbed stream (R22, R94) -/

section Stream

variable {s t : State} {m bytes : List Byte}

theorem absorb_append (v : Variant) (md : Mode) (st : Chain × List Byte) (a b : List Byte) :
    absorb v md st (a ++ b) = absorb v md (absorb v md st a) b :=
  List.foldl_append

theorem absorbByte_length (v : Variant) (md : Mode) {st : Chain × List Byte} (h : st.2.length < 64) (x : Byte) :
    (absorbByte v md st x).2.length = (st.2.length + 1) % 64 := by
  unfold absorbByte
  simp only [List.length_append, List.length_singleton]
  split
  · simp [*]
  · simp only [List.length_append, List.length_singleton]
    omega

/-- The buffer holds what is left of whole blocks (R94). -/
theorem absorb_length (v : Variant) (md : Mode) {st : Chain × List Byte} (h : st.2.length < 64) (bytes : List Byte) :
    (absorb v md st bytes).2.length = (st.2.length + bytes.length) % 64 := by
  induction bytes generalizing st with
  | nil => exact (Nat.mod_eq_of_lt h).symm
  | cons x xs ih =>
    have hx := absorbByte_length v md h x
    rw [absorb, List.foldl_cons, ← absorb, ih (by omega), hx, List.length_cons]
    omega

theorem State.holdsStream_restartStream (s : State) : s.restartStream.holdsStream [] := ⟨rfl, rfl, rfl⟩

theorem State.holdsStream_hardwareReset (s : State) : s.hardwareReset.holdsStream [] := ⟨rfl, rfl, rfl⟩

/-- A stream grows by the bytes absorbed, as long as its length stays in 61 bits. -/
theorem State.holdsStream.absorbBytes (h : s.holdsStream m) (hlen : s.len.toNat + bytes.length < 2 ^ 61) :
    (s.absorbBytes bytes).holdsStream (m ++ bytes) := by
  obtain ⟨habs, hl, hbuf⟩ := h
  have hlen' : (s.absorbBytes bytes).len.toNat = s.len.toNat + bytes.length := by
    simp only [State.absorbBytes_len, BitVec.toNat_add, BitVec.toNat_ofNat]
    omega
  refine ⟨?_, ?_, ?_⟩
  · simp only [State.absorbBytes_variant, State.absorbBytes_mode]
    rw [absorb_append, habs]
    simp
  · rw [hlen', hl, List.length_append]
  · have hlt : s.buf.length < 64 := by omega
    rw [hlen', State.absorbBytes_buf, absorb_length _ _ hlt, hbuf, Nat.mod_add_mod]

theorem updnBytes_length {n : BitVec 3} (h : n.toNat ≤ 4) (d : Word32) : (updnBytes d n).length = n.toNat := by
  simp [updnBytes, dataBytes, toBe32, h]

/-- The stream after the completion of a command (R97 to R100, R102, R110, R115). -/
def streamAfter (i : Instr) (p : Pending) (m : List Byte) : List Byte :=
  match i with
  | .init _ _ => []
  | .reset => []
  | .upd1 b => m ++ [b]
  | .updn n => m ++ updnBytes p.dataIn n
  | .digest => m
  | .search _ _ => m
  | .verify _ => m

theorem streamAfter_eq_self {i : Instr} (h : i = .digest ∨ isSearchOrVerify i) (p : Pending)
    (m : List Byte) : streamAfter i p m = m := by
  rcases h with rfl | ⟨k, f, rfl⟩ | ⟨f, rfl⟩ <;> rfl

/-- The completion of a command leaves the stream that `streamAfter` says. -/
theorem effectOf_holdsStream {i : Instr} {p : Pending} (hr : s.ready i p) (h : s.holdsStream m) :
    (effectOf i s p).finish.holdsStream (streamAfter i p m) := by
  obtain ⟨-, hwf, -, hlen⟩ := hr
  cases i with
  | init md v => exact State.holdsStream_restartStream _
  | reset => exact State.holdsStream_restartStream _
  | upd1 b =>
    have hb : s.len.toNat + 1 < 2 ^ 61 := by
      simp only [State.lengthCheckFails_iff, State.lengthAfter, Config.lmax] at hlen
      omega
    exact State.holdsStream.absorbBytes h hb
  | updn n =>
    have hn : 1 ≤ n.toNat ∧ n.toNat ≤ 4 := by simpa [Instr.wellFormed] using hwf
    have hb : s.len.toNat + (updnBytes p.dataIn n).length < 2 ^ 61 := by
      simp only [State.lengthCheckFails_iff, State.lengthAfter, Config.lmax] at hlen
      rw [updnBytes_length hn.2]
      omega
    exact State.holdsStream.absorbBytes h hb
  | digest => exact h
  | search k f => simpa [State.holdsStream, effectOf, streamAfter] using h
  | verify f => exact h

theorem State.KeepsEngine.holdsStream (hk : s.KeepsEngine t) (h : s.holdsStream m) : t.holdsStream m := by
  simpa [State.holdsStream, hk.variant, hk.mode, hk.cv, hk.buf, hk.len] using h

/-- What a step does to the stream: a completion changes it as `streamAfter` says, a hardware reset empties it, and
every other step leaves it. -/
theorem StepEvent.stream_cases (h : StepEvent s t) :
    (∃ i p, s.completes i ∧ s.pend = some p ∧ ∀ m, s.holdsStream m → t.holdsStream (streamAfter i p m))
    ∨ (s.resets ∧ t.holdsStream [])
    ∨ ((∀ i, ¬ s.completes i) ∧ ¬ s.resets ∧ ∀ m, s.holdsStream m → t.holdsStream m) := by
  cases h with
  | completion i p rest hc hp ht =>
    have hr : s.ready i p := by
      obtain ⟨-, q, -, hq⟩ := hc
      cases hp.symm.trans hq.1
      exact hq
    refine .inl ⟨i, p, hc, hp, fun m hm => ht ▸ ?_⟩
    exact effectOf_holdsStream (s := s.withSchedule rest) hr hm
  | acceptance i c rest ha ht =>
    exact .inr (.inr ⟨fun _ => ha.1.not_completes, ha.1.not_resets, fun m hm => ht ▸ hm⟩)
  | refusal code rest hr ht =>
    exact .inr (.inr ⟨hr.not_completes, hr.not_resets, fun m hm => ht ▸ hm⟩)
  | acknowledgement v rest hw ht =>
    exact .inr (.inr ⟨fun _ => hw.not_completes, hw.not_resets, fun m hm => ht ▸ hm⟩)
  | reset rest hr ht => exact .inr (.inl ⟨hr, ht ▸ State.holdsStream_hardwareReset _⟩)
  | other hn hk => exact .inr (.inr ⟨hn.not_completes, hn.not_resets, fun _ => hk.holdsStream⟩)

theorem State.pendingLegal_of_idle (h : s.pend = none) : s.pendingLegal := by
  intro p hp
  cases h.symm.trans hp

/-- A pending command stays legal: it becomes pending by passing the checks, and what they read changes at its
completion alone. -/
theorem StepEvent.pendingLegal (h : StepEvent s t) (hl : s.pendingLegal) : t.pendingLegal := by
  cases h with
  | completion i p rest hc hp ht => exact State.pendingLegal_of_idle (by simp [ht])
  | acceptance i c rest ha ht =>
    obtain ⟨-, -, hlc, hlen⟩ := ha
    subst ht
    rintro p ⟨⟩
    exact ⟨i, hlc, hlen⟩
  | refusal code rest hr ht => exact ht ▸ hl
  | acknowledgement v rest hw ht => exact ht ▸ hl
  | reset rest hr ht => exact State.pendingLegal_of_idle (by simp [ht, State.reset])
  | other hn hk => simpa [State.pendingLegal, hk.variant, hk.len, hk.pend] using hl

end Stream

/-- Settles O59: the invariant is kept and the stream grows as R22 says, by the three cases of
`StepEvent.stream_cases`. -/
theorem stepKeepsTheStreamInvariant : Obligations.StepKeepsTheStreamInvariant := by
  intro s t hinv hstep
  obtain ⟨⟨m, hm⟩, hl⟩ := hinv
  have hev : StepEvent s t := stepEvent_of_step hl hstep
  rcases hev.stream_cases with ⟨i, p, hc, hp, hk⟩ | ⟨hr, hk⟩ | ⟨hnc, hnr, hk⟩
  · refine ⟨⟨⟨_, hk m hm⟩, hev.pendingLegal hl⟩, fun stream hs => ⟨?_, ?_, ?_, ?_⟩⟩
    · rintro (⟨md, v, hi⟩ | hi | hr)
      · obtain rfl := hi.unique hc
        exact hk stream hs
      · obtain rfl := hi.unique hc
        exact hk stream hs
      · exact absurd hr hc.not_resets
    · intro b hi
      obtain rfl := hi.unique hc
      exact hk stream hs
    · intro n q hi hq
      obtain rfl := hi.unique hc
      cases hp.symm.trans hq
      exact hk stream hs
    · intro _ hkeep
      exact streamAfter_eq_self (hkeep i hc) p stream ▸ hk stream hs
  · refine ⟨⟨⟨_, hk⟩, hev.pendingLegal hl⟩, fun stream hs => ⟨fun _ => hk, ?_, ?_, ?_⟩⟩
    · exact fun b hi => absurd hi hr.not_completes
    · exact fun n p hi => absurd hi hr.not_completes
    · exact fun hn => absurd hr hn
  · refine ⟨⟨⟨_, hk m hm⟩, hev.pendingLegal hl⟩, fun stream hs => ⟨?_, ?_, ?_, ?_⟩⟩
    · rintro (⟨md, v, hi⟩ | hi | hr)
      · exact absurd hi (hnc _)
      · exact absurd hi (hnc _)
      · exact absurd hr hnr
    · exact fun b hi => absurd hi (hnc _)
    · exact fun n p hi => absurd hi (hnc _)
    · exact fun _ _ => hk stream hs

end Sys2Proof.Machine
end

section
/-! SUPPORT. The accept step (10_state.md R44), one rule per branch: O7. -/

namespace Sys2Proof.Machine

/-! ### The accept step on a schedule -/

theorem clearsOutcome_iff {i : Instr} : clearsOutcome i = true ↔ isSearchOrVerify i := by
  cases i <;> simp [clearsOutcome, isSearchOrVerify]

section Accept

variable {s : State} {c : Word32} {i : Instr}

theorem State.acceptCommand_of_pending (h : s.pend ≠ none) : s.acceptCommand c = s.raiseErr .busy := by
  rcases s.acceptCommand_cases c with ⟨-, e⟩ | ⟨hp, -⟩ | ⟨hp, -⟩ | ⟨hp, -⟩
  · exact e
  all_goals exact absurd hp h

theorem State.acceptCommand_of_not_legal (hp : s.pend = none) (hl : legal s.variant c = false) :
    s.acceptCommand c = s.raiseErr .illegalCmd := by
  rw [legal_eq_false] at hl
  rcases s.acceptCommand_cases c with ⟨hp', -⟩ | ⟨-, -, e⟩ | ⟨-, j, hj, -⟩ | ⟨-, j, hj, -⟩
  · exact absurd hp hp'
  · exact e
  all_goals rw [hl] at hj; cases hj

theorem State.acceptCommand_of_length (hp : s.pend = none) (hl : legalCommand s.variant c = some i)
    (hlen : s.lengthCheckFails i) : s.acceptCommand c = s.raiseErr .lengthOverflow := by
  rcases s.acceptCommand_cases c with ⟨hp', -⟩ | ⟨-, hn, -⟩ | ⟨-, j, -, -, e⟩ | ⟨-, j, hj, hok, -⟩
  · exact absurd hp hp'
  · rw [hl] at hn; cases hn
  · exact e
  · cases hl.symm.trans hj
    exact absurd hlen hok

theorem State.acceptCommand_of_checks (hp : s.pend = none) (hl : legalCommand s.variant c = some i)
    (hlen : ¬ s.lengthCheckFails i) : s.acceptCommand c = s.latchCommand i c := by
  rcases s.acceptCommand_cases c with ⟨hp', -⟩ | ⟨-, hn, -⟩ | ⟨-, j, hj, hfail, -⟩ | ⟨-, j, hj, -, e⟩
  · exact absurd hp hp'
  · rw [hl] at hn; cases hn
  · cases hl.symm.trans hj
    exact absurd hfail hlen
  · cases hl.symm.trans hj
    exact e

/-- The step of a scheduled CMD write is the accept step. -/
theorem step_cmdWrite {rest : List Event} (h : s.schedule = .hostWrite .word 0x10 c :: rest) :
    step s = .next ((s.withSchedule rest).acceptCommand c) := by
  rw [step, h]
  rfl

end Accept

/-- Settles O7: each branch of the accept step (R44), cited from the rule of that branch. -/
theorem acceptStepChecksThenLatches : Obligations.AcceptStepChecksThenLatches := by
  intro s c rest hs
  rw [step_cmdWrite hs]
  refine ⟨fun hp => ?_, fun hp hl => ?_, fun i hp hl => ⟨fun hlen => ?_, fun hlen => ?_⟩⟩
  · exact congrArg _ (State.acceptCommand_of_pending (s := s.withSchedule rest) hp)
  · exact congrArg _ (State.acceptCommand_of_not_legal (s := s.withSchedule rest) hp hl)
  · exact congrArg _ (State.acceptCommand_of_length (s := s.withSchedule rest) hp hl hlen)
  · rw [State.acceptCommand_of_checks (s := s.withSchedule rest) hp hl hlen]
    refine ⟨_, rfl, rfl, fun hi => ?_, fun hi => ?_⟩
    · simp [State.latchCommand, clearsOutcome_iff.mpr hi, State.latched, State.withSchedule]
    · simp [State.latchCommand, mt clearsOutcome_iff.mp hi, State.latched, State.withSchedule]

end Sys2Proof.Machine
end

section
/-! SUPPORT. The lifetimes of the flags of STATUS (10_state.md R43): O17. -/

namespace Sys2Proof.Machine

/-- MATCH is written by VERIFY alone (R43). -/
theorem effectOf_matched_of_ne_verify {i : Instr} (h : ∀ f, i ≠ .verify f) (s : State) (p : Pending) :
    (effectOf i s p).matched = s.matched := by
  cases i with
  | verify f => exact absurd rfl (h f)
  | _ => simp [effectOf]

/-- RESULT is written by SEARCH alone (R43). -/
theorem effectOf_result_of_ne_search {i : Instr} (h : ∀ k f, i ≠ .search k f) (s : State) (p : Pending) :
    (effectOf i s p).result = s.result := by
  cases i with
  | search k f => exact absurd rfl (h k f)
  | _ => simp [effectOf]

/-- No command reads a flag: with other flags, a completion differs in those flags alone that it does not write. -/
theorem effectOf_finish_of_flags (i : Instr) (s : State) (p : Pending) (d e m : Bool) (r : SearchResult)
    (c : ErrCode) :
    (effectOf i { s with done := d, err := e, matched := m, result := r, errCode := c } p).finish
      = { (effectOf i s p).finish with
          err := e
          errCode := c
          matched := match i with | .verify _ => (effectOf i s p).finish.matched | _ => m
          result := match i with | .search _ _ => (effectOf i s p).finish.result | _ => r } := by
  cases i with
  | search k f =>
    have ho : State.searchOutcome { s with done := d, err := e, matched := m, result := r, errCode := c } k.toNat f p
      = s.searchOutcome k.toNat f p := rfl
    simp only [effectOf, ho]
    cases s.searchOutcome k.toNat f p <;> rfl
  | _ => rfl

/-- Settles O17: no completion reads a flag, and each event of a step (`StepEvent`) moves the flags that R43 gives
it. -/
theorem statusFlagLifetimes : Obligations.StatusFlagLifetimes := by
  refine ⟨fun i s t p d e m r c hr ht => ?_, fun s t hl ht => ?_⟩
  · rw [exec_ready hr] at ht
    cases ht
    rw [exec_ready (p := p) (by exact hr)]
    exact congrArg _ (effectOf_finish_of_flags i s p d e m r c)
  cases stepEvent_of_step hl ht with
  | completion i p rest hc hp ht =>
    obtain ⟨hdone, hpend, herr, hcode, -⟩ := effectOf_finish_frame i (s.withSchedule rest) p
    have hm : t.matched ≠ s.matched → ∃ f, s.completes (.verify f) := by
      contrapose!
      intro hv
      subst ht
      exact effectOf_matched_of_ne_verify (fun f hf => hv f (hf ▸ hc)) _ p
    have hres : t.result ≠ s.result → ∃ k f, s.completes (.search k f) := by
      contrapose!
      intro hv
      subst ht
      exact effectOf_result_of_ne_search (fun k f hf => hv k f (hf ▸ hc)) _ p
    rw [← ht] at hdone hpend herr hcode
    have hex : ∃ i, s.completes i := ⟨i, hc⟩
    refine ⟨?_, ?_, ?_, ?_, ?_, ?_, ?_, fun h => .inl (hm h), fun h => .inl (hres h), ?_⟩
    all_goals simp [State.busy, hdone, hpend, herr, hcode, hp, hex, hc.not_writes, hc.not_resets, hc.not_accepts,
      hc.not_refusesCommand]
  | acceptance i c rest ha ht =>
    have hex : ∃ i c, s.accepts i c := ⟨i, c, ha⟩
    have hidle : s.pend = none := ha.2.1
    have hsv : isSearchOrVerify i → ∃ i c, s.accepts i c ∧ isSearchOrVerify i := fun hi => ⟨i, c, ha, hi⟩
    have hkeep : ¬ isSearchOrVerify i → t.matched = s.matched ∧ t.result = s.result := fun hi => by
      simp [ht, mt clearsOutcome_iff.mp hi]
    have hclear : (∃ i c, s.accepts i c ∧ isSearchOrVerify i) → t.matched = false ∧ t.result = .none := by
      rintro ⟨j, d, hj, hi⟩
      obtain rfl := ha.unique hj
      simp [ht, clearsOutcome_iff.mpr hi]
    refine ⟨?_, ?_, ?_, ?_, ?_, ?_, ?_, fun h => ?_, fun h => ?_, ?_⟩
    case refine_8 => exact .inr (.inl (hsv (by_contra fun hi => h (hkeep hi).1)))
    case refine_9 => exact .inr (.inl (hsv (by_contra fun hi => h (hkeep hi).2)))
    case refine_10 => exact fun h => hclear (h.resolve_right ha.1.not_resets)
    all_goals simp +contextual [State.busy, ht, hidle, hex, ha.1.not_completes, ha.1.not_resets,
      ha.not_refusesCommand, ha.not_writes_status]
  | refusal code rest hr ht =>
    have hacc : ∀ i c, ¬ s.accepts i c := fun i c ha => ha.not_refusesCommand hr
    simp +contextual [State.busy, ht, hr, hacc, hr.not_completes, hr.not_resets, hr.not_writes_status]
  | acknowledgement v rest hw ht =>
    have hacc : ∀ i c, ¬ s.accepts i c := fun i c ha => ha.not_writes_status v hw
    have href : ¬ s.refusesCommand := fun hr => hr.not_writes_status v hw
    simp +contextual [State.busy, ht, hacc, href, hw.exists_iff, hw.not_completes, hw.not_resets]
  | reset rest hr ht =>
    simp +contextual [State.busy, ht, eq_true hr, State.reset, hr.not_completes, hr.not_writes, hr.not_accepts,
      hr.not_refusesCommand]
  | other hn hk =>
    simp +contextual [State.busy, hk.pend, hk.done, hk.err, hk.matched, hk.result, hk.errCode, hn.not_completes,
      hn.not_writes_status, hn.not_resets, hn.not_accepts, hn.not_refusesCommand]

end Sys2Proof.Machine
end

section
/-! SUPPORT. Command words (30_encoding.md): each word by the fields of its format (R65 to R70), and the decoder and
the encoder as inverses. -/

namespace Sys2Proof

/-! ### Words by their fields (R65 to R70) -/

/-- A field that spans two joined parts has them as its adjacent fields. -/
theorem extractLsb'_eq_append {w m n lo : Nat} {x : BitVec w} {a : BitVec m} {b : BitVec n} :
    x.extractLsb' lo (m + n) = a ++ b ↔ x.extractLsb' (lo + n) m = a ∧ x.extractLsb' lo n = b := by
  rw [← BitVec.extractLsb'_append_extractLsb'_eq_extractLsb' (x := x) (start₁ := lo) (len₁ := n) rfl]
  constructor
  · intro h
    constructor
    · rw [← BitVec.extractLsb'_append_eq_left (a := a) (b := b), ← h, BitVec.extractLsb'_append_eq_left]
    · rw [← BitVec.extractLsb'_append_eq_right (a := a) (b := b), ← h, BitVec.extractLsb'_append_eq_right]
  · rintro ⟨rfl, rfl⟩
    rfl

theorem eq_append {m n : Nat} {x : BitVec (m + n)} {a : BitVec m} {b : BitVec n} :
    x = a ++ b ↔ x.extractLsb' n m = a ∧ x.extractLsb' 0 n = b := by
  simpa using extractLsb'_eq_append (x := x) (lo := 0) (a := a) (b := b)

theorem extractLsb'_eq_variantBit {w : Word32} {n : Nat} {v : Variant} :
    w.extractLsb' n 1 = v.bit ↔ variantOfBit (w.getLsbD n) = v := by
  rw [BitVec.getLsbD_eq_extractLsb']
  generalize w.extractLsb' n 1 = b
  revert b
  cases v <;> decide

theorem extractLsb'_eq_suffixBit {w : Word32} {n : Nat} {f : Suffix} :
    w.extractLsb' n 1 = f.bit ↔ suffixOfBit (w.getLsbD n) = f := by
  rw [BitVec.getLsbD_eq_extractLsb']
  generalize w.extractLsb' n 1 = b
  revert b
  cases f <;> decide

theorem extractLsb'_eq_zeroBit {w : Word32} {n : Nat} :
    w.extractLsb' n 1 = 0#1 ↔ w.getLsbD n = false := by
  rw [BitVec.getLsbD_eq_extractLsb']
  generalize w.extractLsb' n 1 = b
  revert b
  decide

theorem Instr.exists_iff {P : Instr → Prop} : (∃ i, P i) ↔
    (∃ m v, P (.init m v)) ∨ P .reset ∨ (∃ b, P (.upd1 b)) ∨ (∃ n, P (.updn n)) ∨ P .digest
      ∨ (∃ k f, P (.search k f)) ∨ ∃ f, P (.verify f) := by
  constructor
  · rintro ⟨i, h⟩
    cases i with
    | init m v => exact .inl ⟨m, v, h⟩
    | reset => exact .inr (.inl h)
    | upd1 b => exact .inr (.inr (.inl ⟨b, h⟩))
    | updn n => exact .inr (.inr (.inr (.inl ⟨n, h⟩)))
    | digest => exact .inr (.inr (.inr (.inr (.inl h))))
    | search k f => exact .inr (.inr (.inr (.inr (.inr (.inl ⟨k, f, h⟩)))))
    | verify f => exact .inr (.inr (.inr (.inr (.inr (.inr ⟨f, h⟩)))))
  · rintro (⟨_, _, h⟩ | h | ⟨_, h⟩ | ⟨_, h⟩ | h | ⟨_, _, h⟩ | ⟨_, h⟩) <;> exact ⟨_, h⟩

section Fields

variable {w : Word32}

theorem eq_encode_init {m : BitVec 2} {v : Variant} : w = encode (.init m v) ↔
    opcodeOf w = 0x01#8 ∧ w.extractLsb' 3 21 = 0 ∧ w.extractLsb' 1 2 = m ∧ variantOfBit (w.getLsbD 0) = v := by
  refine (eq_append (m := 8 + 21 + 2) (n := 1)).trans ?_
  rw [extractLsb'_eq_append, extractLsb'_eq_append, extractLsb'_eq_variantBit, and_assoc, and_assoc]
  rfl

theorem eq_encode_reset : w = encode .reset ↔ opcodeOf w = 0x02#8 ∧ w.extractLsb' 0 24 = 0 :=
  eq_append (m := 8) (n := 24)

theorem eq_encode_upd1 {b : Byte} : w = encode (.upd1 b) ↔
    opcodeOf w = 0x03#8 ∧ w.extractLsb' 8 16 = 0 ∧ w.extractLsb' 0 8 = b := by
  refine (eq_append (m := 8 + 16) (n := 8)).trans ?_
  rw [extractLsb'_eq_append, and_assoc]
  rfl

theorem eq_encode_updn {n : BitVec 3} : w = encode (.updn n) ↔
    opcodeOf w = 0x04#8 ∧ w.extractLsb' 3 21 = 0 ∧ w.extractLsb' 0 3 = n := by
  refine (eq_append (m := 8 + 21) (n := 3)).trans ?_
  rw [extractLsb'_eq_append, and_assoc]
  rfl

theorem eq_encode_digest : w = encode .digest ↔ opcodeOf w = 0x05#8 ∧ w.extractLsb' 0 24 = 0 :=
  eq_append (m := 8) (n := 24)

theorem eq_encode_search {k : BitVec 7} {f : Suffix} : w = encode (.search k f) ↔
    opcodeOf w = 0x06#8 ∧ w.extractLsb' 9 15 = 0 ∧ suffixOfBit (w.getLsbD 8) = f ∧ w.getLsbD 7 = false
      ∧ w.extractLsb' 0 7 = k := by
  refine (eq_append (m := 8 + 15 + 1 + 1) (n := 7)).trans ?_
  rw [extractLsb'_eq_append, extractLsb'_eq_append, extractLsb'_eq_append, extractLsb'_eq_suffixBit,
    extractLsb'_eq_zeroBit, and_assoc, and_assoc, and_assoc]
  rfl

theorem eq_encode_verify {f : Suffix} : w = encode (.verify f) ↔
    opcodeOf w = 0x07#8 ∧ w.extractLsb' 9 15 = 0 ∧ suffixOfBit (w.getLsbD 8) = f ∧ w.extractLsb' 0 8 = 0 := by
  refine (eq_append (m := 8 + 15 + 1) (n := 8)).trans ?_
  rw [extractLsb'_eq_append, extractLsb'_eq_append, extractLsb'_eq_suffixBit, and_assoc, and_assoc]
  rfl

/-- The opcode of a command (R64). -/
def Instr.opcode : Instr → BitVec 8
  | .init _ _ => 0x01#8
  | .reset => 0x02#8
  | .upd1 _ => 0x03#8
  | .updn _ => 0x04#8
  | .digest => 0x05#8
  | .search _ _ => 0x06#8
  | .verify _ => 0x07#8

@[simp] theorem opcodeOf_encode (i : Instr) : opcodeOf (encode i) = i.opcode := by
  cases i with
  | init m v => exact (eq_encode_init.mp rfl).1
  | reset => exact (eq_encode_reset.mp rfl).1
  | upd1 b => exact (eq_encode_upd1.mp rfl).1
  | updn n => exact (eq_encode_updn.mp rfl).1
  | digest => exact (eq_encode_digest.mp rfl).1
  | search k f => exact (eq_encode_search.mp rfl).1
  | verify f => exact (eq_encode_verify.mp rfl).1

/-! ### The decoder and the encoder are inverses -/

theorem checkReserved_eq_ok {clear : Bool} {i j : Instr} :
    checkReserved clear i = .ok j ↔ clear = true ∧ i = j := by
  cases clear <;> simp [checkReserved]

theorem decode_encode (i : Instr) : decode (encode i) = .ok i := by
  cases i with
  | init m v =>
    obtain ⟨hop, hres, hm, hv⟩ := eq_encode_init.mp (rfl : encode (.init m v) = _)
    simp [decode, checkReserved, hop, hres, hm, hv, -BitVec.getLsbD_eq_getElem]
  | reset => decide
  | upd1 b =>
    obtain ⟨hop, hres, hb⟩ := eq_encode_upd1.mp (rfl : encode (.upd1 b) = _)
    simp [decode, checkReserved, hop, hres, hb]
  | updn n =>
    obtain ⟨hop, hres, hn⟩ := eq_encode_updn.mp (rfl : encode (.updn n) = _)
    simp [decode, checkReserved, hop, hres, hn]
  | digest => decide
  | search k f =>
    obtain ⟨hop, hres, hf, hbit, hk⟩ := eq_encode_search.mp (rfl : encode (.search k f) = _)
    simp [decode, checkReserved, hop, hres, hf, hbit, hk, -BitVec.getLsbD_eq_getElem]
  | verify f =>
    obtain ⟨hop, hres, hf, hlow⟩ := eq_encode_verify.mp (rfl : encode (.verify f) = _)
    simp [decode, checkReserved, hop, hres, hf, hlow, -BitVec.getLsbD_eq_getElem]

theorem encode_injective : Function.Injective encode := fun i j h => by
  have hij : decode (encode i) = decode (encode j) := congrArg decode h
  simpa only [decode_encode, Except.ok.injEq] using hij

/-- A word decodes to a command exactly where it is the command's word: no bit of it is ignored. -/
theorem decode_eq_ok {i : Instr} : decode w = .ok i ↔ w = encode i := by
  refine ⟨fun h => ?_, fun h => h ▸ decode_encode i⟩
  unfold decode at h
  split_ifs at h with h1 h2 h3 h4 h5 h6 h7
  all_goals obtain ⟨hres, rfl⟩ := checkReserved_eq_ok.mp h
  · exact eq_encode_init.mpr ⟨h1, by simpa using hres, rfl, rfl⟩
  · exact eq_encode_reset.mpr ⟨h2, by simpa using hres⟩
  · exact eq_encode_upd1.mpr ⟨h3, by simpa using hres, rfl⟩
  · exact eq_encode_updn.mpr ⟨h4, by simpa using hres, rfl⟩
  · exact eq_encode_digest.mpr ⟨h5, by simpa using hres⟩
  · obtain ⟨hhigh, hbit⟩ : w.extractLsb' 9 15 = 0 ∧ w.getLsbD 7 = false := by simpa using hres
    exact eq_encode_search.mpr ⟨h6, hhigh, rfl, hbit, rfl⟩
  · obtain ⟨hhigh, hlow⟩ : w.extractLsb' 9 15 = 0 ∧ w.extractLsb' 0 8 = 0 := by simpa using hres
    exact eq_encode_verify.mpr ⟨h7, hhigh, rfl, hlow⟩

end Fields

end Sys2Proof
end

section
/-! SUPPORT. The legal words (30_encoding.md R72) and their number (R73), over the commands whose words they are: O4,
O5. -/

namespace Sys2Proof.Machine

/-! ### The legal words (R72) -/

/-- The legal words are the words of the commands with legal operands that the variant admits. -/
theorem legal_iff_exists_encode {v : Variant} {w : Word32} :
    legal v w = true ↔ ∃ i : Instr, w = encode i ∧ i.wellFormed = true ∧ i.allowedUnder v = true := by
  simp only [legal_eq_true, legalCommand_eq_some, decode_eq_ok]

/-- The check of SFX against the variant (R69, R70). -/
theorem suffixOfBit_allowedUnder {b : Bool} {v : Variant} :
    (suffixOfBit b).allowedUnder v = true ↔ b = false ∨ v = .fastMixDigest := by
  cases b <;> cases v <;> decide

/-- Settles O4: the legal words command by command, each by the fields of its format; the refusal is the branch of
the accept step for an illegal word. -/
theorem legalWordsAreThoseOfTheRule : Obligations.LegalWordsAreThoseOfTheRule := by
  refine ⟨fun v c => ?_, fun s c rest hp hl hs => (acceptStepChecksThenLatches s c rest hs).2.1 hp hl⟩
  rw [legal_iff_exists_encode, Instr.exists_iff]
  refine or_congr ?init (or_congr ?reset (or_congr ?upd1 (or_congr ?updn (or_congr ?digest
    (or_congr ?search ?verify)))))
  case init => simp [eq_encode_init, opcodeOf, Instr.wellFormed, Instr.allowedUnder, and_assoc]
  case reset => simp [eq_encode_reset, opcodeOf, Instr.wellFormed, Instr.allowedUnder]
  case upd1 => simp [eq_encode_upd1, opcodeOf, Instr.wellFormed, Instr.allowedUnder]
  case updn => simp [eq_encode_updn, opcodeOf, Instr.wellFormed, Instr.allowedUnder, and_assoc]
  case digest => simp [eq_encode_digest, opcodeOf, Instr.wellFormed, Instr.allowedUnder]
  case search =>
    simp [eq_encode_search, opcodeOf, Instr.wellFormed, Instr.allowedUnder, suffixOfBit_allowedUnder, and_assoc]
  case verify =>
    simp [eq_encode_verify, opcodeOf, Instr.wellFormed, Instr.allowedUnder, suffixOfBit_allowedUnder, and_assoc]

/-! ### How many words are legal (R73) -/

/-- The values of a field of `n` bits. -/
def fieldValues (n : Nat) : List (BitVec n) := (List.finRange (2 ^ n)).map BitVec.ofFin

theorem mem_fieldValues {n : Nat} (b : BitVec n) : b ∈ fieldValues n :=
  List.mem_map.mpr ⟨b.toFin, List.mem_finRange _, rfl⟩

theorem nodup_fieldValues (n : Nat) : (fieldValues n).Nodup :=
  (List.nodup_finRange _).map fun _ _ h => BitVec.ofFin.inj h

@[simp] theorem length_fieldValues (n : Nat) : (fieldValues n).length = 2 ^ n := by
  simp [fieldValues]

/-- The modes of INIT that are legal (R65). -/
def legalModes : List (BitVec 2) := [0, 1, 2]

theorem mem_legalModes {m : BitVec 2} : m ∈ legalModes ↔ m ≠ 3#2 := by
  revert m; decide

/-- The variants of INIT (R65). -/
def variants : List Variant := [.standardDigest, .fastMixDigest]

theorem mem_variants (v : Variant) : v ∈ variants := by
  cases v <;> decide

/-- The byte counts of UPDN that are legal (R68). -/
def legalByteCounts : List (BitVec 3) := [1, 2, 3, 4]

theorem mem_legalByteCounts {n : BitVec 3} : n ∈ legalByteCounts ↔ 1 ≤ n.toNat ∧ n.toNat ≤ 4 := by
  revert n; decide

/-- The suffix forms that the variant admits (R69, R70). -/
def suffixesUnder : Variant → List Suffix
  | .standardDigest => [.dec]
  | .fastMixDigest => [.dec, .le32]

theorem mem_suffixesUnder {v : Variant} {f : Suffix} : f ∈ suffixesUnder v ↔ f.allowedUnder v = true := by
  cases v <;> cases f <;> decide

theorem nodup_suffixesUnder (v : Variant) : (suffixesUnder v).Nodup := by
  cases v <;> decide

/-- The table of R73: the commands of an opcode that are legal under the variant. -/
def legalCommands (v : Variant) : BitVec 8 → List Instr
  | 0x01#8 => (legalModes ×ˢ variants).map fun p => .init p.1 p.2
  | 0x02#8 => [.reset]
  | 0x03#8 => (fieldValues 8).map .upd1
  | 0x04#8 => legalByteCounts.map .updn
  | 0x05#8 => [.digest]
  | 0x06#8 => (fieldValues 7 ×ˢ suffixesUnder v).map fun p => .search p.1 p.2
  | 0x07#8 => (suffixesUnder v).map .verify
  | _ => []

theorem opcode_of_mem_legalCommands {v : Variant} {op : BitVec 8} {i : Instr} (h : i ∈ legalCommands v op) :
    i.opcode = op := by
  unfold legalCommands at h
  split at h
  case h_2 => obtain rfl := List.mem_singleton.mp h; rfl
  case h_5 => obtain rfl := List.mem_singleton.mp h; rfl
  case h_8 => cases h
  all_goals
    obtain ⟨x, -, rfl⟩ := List.mem_map.mp h
    rfl

/-- A command stands in the row of its opcode exactly where its operands are legal and the variant admits it. -/
theorem mem_legalCommands_opcode {v : Variant} {i : Instr} :
    i ∈ legalCommands v i.opcode ↔ i.wellFormed = true ∧ i.allowedUnder v = true := by
  cases i with
  | init m u => simp [Instr.opcode, legalCommands, Instr.wellFormed, Instr.allowedUnder, mem_legalModes, mem_variants]
  | reset => simp [Instr.opcode, legalCommands, Instr.wellFormed, Instr.allowedUnder]
  | upd1 b => simp [Instr.opcode, legalCommands, Instr.wellFormed, Instr.allowedUnder, mem_fieldValues]
  | updn n => simp [Instr.opcode, legalCommands, Instr.wellFormed, Instr.allowedUnder, mem_legalByteCounts]
  | digest => simp [Instr.opcode, legalCommands, Instr.wellFormed, Instr.allowedUnder]
  | search k f =>
    simp [Instr.opcode, legalCommands, Instr.wellFormed, Instr.allowedUnder, mem_fieldValues, mem_suffixesUnder]
  | verify f => simp [Instr.opcode, legalCommands, Instr.wellFormed, Instr.allowedUnder, mem_suffixesUnder]

theorem nodup_legalCommands (v : Variant) (op : BitVec 8) : (legalCommands v op).Nodup := by
  unfold legalCommands
  split
  case h_1 => decide
  case h_3 => exact (nodup_fieldValues 8).map fun _ _ h => Instr.upd1.inj h
  case h_4 => decide
  case h_6 =>
    refine ((nodup_fieldValues 7).product (nodup_suffixesUnder v)).map fun p q h => ?_
    exact Prod.ext (Instr.search.inj h).1 (Instr.search.inj h).2
  case h_7 => exact (nodup_suffixesUnder v).map fun _ _ h => Instr.verify.inj h
  all_goals simp

/-- The numbers of R73, per opcode: the column `count` of its table. -/
def legalCount (v : Variant) : BitVec 8 → Nat
  | 0x01#8 => 6
  | 0x02#8 => 1
  | 0x03#8 => 256
  | 0x04#8 => 4
  | 0x05#8 => 1
  | 0x06#8 => if v = .fastMixDigest then 256 else 128
  | 0x07#8 => if v = .fastMixDigest then 2 else 1
  | _ => 0

theorem length_legalCommands (v : Variant) (op : BitVec 8) : (legalCommands v op).length = legalCount v op := by
  unfold legalCommands legalCount
  split
  case h_3 => simp
  case h_6 => cases v <;> simp [List.length_product, suffixesUnder]
  case h_7 => cases v <;> rfl
  all_goals rfl

/-- The legal words with one of the given opcodes are the words of the commands in those rows of the table. -/
theorem hasCount_legal_opcodes (v : Variant) {ops : List (BitVec 8)} (hops : ops.Nodup) :
    HasCount (fun w => legal v w = true ∧ opcodeOf w ∈ ops) (ops.map (legalCount v)).sum := by
  refine ⟨(ops.flatMap (legalCommands v)).map encode, ?_, ?_, fun w => ?_⟩
  · refine List.Nodup.map encode_injective (List.nodup_flatMap.mpr ⟨fun op _ => nodup_legalCommands v op, ?_⟩)
    refine hops.imp fun hne i h1 h2 => hne ?_
    exact (opcode_of_mem_legalCommands h1).symm.trans (opcode_of_mem_legalCommands h2)
  · simp only [List.length_map, List.length_flatMap, length_legalCommands]
  · simp only [List.mem_map, List.mem_flatMap, legal_iff_exists_encode]
    constructor
    · rintro ⟨i, ⟨op, hop, hi⟩, rfl⟩
      obtain rfl := opcode_of_mem_legalCommands hi
      exact ⟨⟨i, rfl, mem_legalCommands_opcode.mp hi⟩, by rwa [opcodeOf_encode]⟩
    · rintro ⟨⟨i, rfl, hi⟩, hop⟩
      exact ⟨i, ⟨_, opcodeOf_encode i ▸ hop, mem_legalCommands_opcode.mpr hi⟩, rfl⟩

theorem hasCount_legal_opcode (v : Variant) (op : BitVec 8) :
    HasCount (fun w => legal v w = true ∧ w.extractLsb' 24 8 = op) (legalCount v op) := by
  simpa [opcodeOf] using hasCount_legal_opcodes v (List.nodup_singleton op)

/-- The opcodes of the table (R64). -/
def tableOpcodes : List (BitVec 8) := [0x01, 0x02, 0x03, 0x04, 0x05, 0x06, 0x07]

theorem opcodeOf_mem_of_legal {v : Variant} {w : Word32} (h : legal v w = true) : opcodeOf w ∈ tableOpcodes := by
  obtain ⟨i, rfl, -⟩ := legal_iff_exists_encode.mp h
  cases i <;> simp [Instr.opcode, tableOpcodes]

theorem hasCount_legal (v : Variant) :
    HasCount (fun w => legal v w = true) (tableOpcodes.map (legalCount v)).sum := by
  have h := hasCount_legal_opcodes v (ops := tableOpcodes) (by decide)
  simpa only [and_iff_left_of_imp opcodeOf_mem_of_legal] using h

/-- Settles O5: the legal words are counted by the table of their commands, row by row and over all rows. -/
theorem legalWordCounts : Obligations.LegalWordCounts := by
  have hrow := hasCount_legal_opcode
  exact ⟨fun v => ⟨hrow v 0x01#8, hrow v 0x02#8, hrow v 0x03#8, hrow v 0x04#8, hrow v 0x05#8, hrow v 0x06#8,
    hrow v 0x07#8⟩, hasCount_legal .fastMixDigest, hasCount_legal .standardDigest⟩

end Sys2Proof.Machine
end

section
/-! SUPPORT. StandardDigest's words (40_standard_digest.md R79, R80): its rotations are the rotations of the core
library, and the choice and the majority are taken bit by bit: O25, O26. -/

namespace Sys2Proof.Machine

theorem rotr32_eq_rotateRight (x : Word32) {n : Nat} (hn : n < 32) : rotr32 x n = x.rotateRight n := by
  rw [rotr32, BitVec.rotateRight_def, Nat.mod_eq_of_lt hn]

theorem smallSigma0_eq_rotateRight (x : Word32) :
    smallSigma0 x = x.rotateRight 7 ^^^ x.rotateRight 18 ^^^ (x >>> 3) := by
  simp [smallSigma0, rotr32_eq_rotateRight]

theorem smallSigma1_eq_rotateRight (x : Word32) :
    smallSigma1 x = x.rotateRight 17 ^^^ x.rotateRight 19 ^^^ (x >>> 10) := by
  simp [smallSigma1, rotr32_eq_rotateRight]

theorem bigSigma0_eq_rotateRight (x : Word32) :
    bigSigma0 x = x.rotateRight 2 ^^^ x.rotateRight 13 ^^^ x.rotateRight 22 := by
  simp [bigSigma0, rotr32_eq_rotateRight]

theorem bigSigma1_eq_rotateRight (x : Word32) :
    bigSigma1 x = x.rotateRight 6 ^^^ x.rotateRight 11 ^^^ x.rotateRight 25 := by
  simp [bigSigma1, rotr32_eq_rotateRight]

/-- Settles O25: the schedule functions by the rotations of the core library; the rule's examples are evaluated. -/
theorem scheduleFunctionsRotateAndShift : Obligations.ScheduleFunctionsRotateAndShift :=
  ⟨fun x => ⟨smallSigma0_eq_rotateRight x, smallSigma1_eq_rotateRight x⟩, by decide⟩

/-- The choice, bit by bit: `f` where `e` is 1, `g` where `e` is 0. -/
theorem getLsbD_chooseWord (e f g : Word32) {i : Nat} (hi : i < 32) :
    (chooseWord e f g).getLsbD i = if e.getLsbD i then f.getLsbD i else g.getLsbD i := by
  simp only [chooseWord, BitVec.getLsbD_xor, BitVec.getLsbD_and, BitVec.getLsbD_not, hi]
  cases e.getLsbD i <;> simp

/-- The majority, bit by bit: 1 where at least two of the three bits are 1. -/
theorem getLsbD_majorityWord (a b c : Word32) (i : Nat) :
    (majorityWord a b c).getLsbD i
      = decide (2 ≤ (a.getLsbD i).toNat + (b.getLsbD i).toNat + (c.getLsbD i).toNat) := by
  simp only [majorityWord, BitVec.getLsbD_xor, BitVec.getLsbD_and]
  generalize a.getLsbD i = x, b.getLsbD i = y, c.getLsbD i = z
  revert x y z
  decide

theorem chooseWord_allOnes (f g : Word32) : chooseWord (BitVec.allOnes 32) f g = f := by
  rw [chooseWord, BitVec.allOnes_and, BitVec.not_allOnes, BitVec.zero_and, BitVec.xor_zero]

theorem chooseWord_zero (f g : Word32) : chooseWord 0#32 f g = g := by
  rw [chooseWord, BitVec.zero_and, BitVec.not_zero, BitVec.allOnes_and, BitVec.zero_xor]

theorem majorityWord_allOnes_zero (c : Word32) : majorityWord (BitVec.allOnes 32) 0#32 c = c := by
  rw [majorityWord, BitVec.and_zero, BitVec.zero_and, BitVec.allOnes_and, BitVec.zero_xor, BitVec.xor_zero]

/-- Settles O26: the rotations of the core library, the choice and the majority bit by bit, and their cases. -/
theorem roundFunctionsChooseAndVote : Obligations.RoundFunctionsChooseAndVote :=
  ⟨fun x => ⟨bigSigma0_eq_rotateRight x, bigSigma1_eq_rotateRight x⟩,
    fun e f g => ⟨rfl, fun _ hi => getLsbD_chooseWord e f g hi⟩,
    fun a b c => ⟨rfl, fun i _ => getLsbD_majorityWord a b c i⟩,
    fun f g => ⟨chooseWord_allOnes f g, chooseWord_zero f g⟩,
    majorityWord_allOnes_zero, by decide⟩

end Sys2Proof.Machine
end

section
/-! SUPPORT. The padding (40_standard_digest.md R77): O23. -/

namespace Sys2Proof.Machine

@[simp] theorem length_toBe64 (w : Word64) : (toBe64 w).length = 8 := rfl

@[simp] theorem length_padStd (len : Nat) : (padStd len).length = 9 + padZeros len := by
  simp only [padStd, zeroBytes, List.length_cons, List.length_append, List.length_replicate, length_toBe64]
  omega

/-- The padding reaches a whole number of blocks. -/
theorem add_padZeros_eq (len : Nat) : len + 9 + padZeros len = 64 * ((len + 8) / 64 + 1) := by
  unfold padZeros
  omega

/-- Less than one block of zeros reaches a whole number of blocks in one way. -/
theorem padZeros_eq_of_mod {len z : Nat} (hz : z < 64) (h : (len + 1 + z + 8) % 64 = 0) : padZeros len = z := by
  unfold padZeros
  omega

/-- The padded message is the whole number of blocks of R77. -/
theorem length_append_padStd (m : List Byte) :
    (m ++ padStd m.length).length = 64 * ((m.length + 8) / 64 + 1) := by
  rw [List.length_append, length_padStd, ← add_padZeros_eq]
  omega

/-- The length field holds the bit length of every message up to LMAX. -/
theorem toNat_bitLength {len : Nat} (h : len ≤ 2 ^ 61 - 1) : (BitVec.ofNat 64 (8 * len)).toNat = 8 * len := by
  rw [BitVec.toNat_ofNat]
  omega

/-- Settles O23: the number of zeros is the one that reaches a whole number of blocks, so the padding is written with
it; the rule's examples are evaluated. -/
theorem paddingReachesAWholeNumberOfBlocks : Obligations.PaddingReachesAWholeNumberOfBlocks := by
  refine ⟨fun m z hz h => ?_, fun _ => toNat_bitLength, by decide, by decide⟩
  obtain rfl := padZeros_eq_of_mod hz h
  refine ⟨rfl, ?_, length_append_padStd m, fun z' hz' => ?_⟩
  · rw [length_append_padStd, add_padZeros_eq]
  · omega

end Sys2Proof.Machine
end

section
/-! SUPPORT. The stream block by block (42_engine_commands.md R94), for either variant, and the whole-message form of
StandardDigest (40_standard_digest.md R84): O27. -/

namespace Sys2Proof.Machine

/-! ### Blocks of a byte sequence -/

theorem blocks64_succ (n : Nat) (m : List Byte) : blocks64 (n + 1) m = m.take 64 :: blocks64 n (m.drop 64) := rfl

theorem blocks64_add (k n : Nat) (m : List Byte) :
    blocks64 (k + n) m = blocks64 k m ++ blocks64 n (m.drop (64 * k)) := by
  induction k generalizing m with
  | zero => simp [blocks64]
  | succ k ih =>
    rw [Nat.succ_add, blocks64_succ, blocks64_succ, ih, List.drop_drop, List.cons_append]
    congr 4
    omega

/-- The blocks that lie in the first part of a sequence are its blocks alone. -/
theorem blocks64_append_left {k : Nat} {a : List Byte} (h : 64 * k ≤ a.length) (b : List Byte) :
    blocks64 k (a ++ b) = blocks64 k a := by
  induction k generalizing a with
  | zero => rfl
  | succ k ih =>
    rw [blocks64_succ, blocks64_succ, List.take_append_of_le_length (by omega),
      List.drop_append_of_le_length (by omega), ih (by rw [List.length_drop]; omega)]

/-- Absorbing compresses every whole block of what the buffer held and the new bytes, in order, and keeps the rest
(R94). -/
theorem absorb_eq_blocks64 (v : Variant) (md : Mode) (cv : Chain) {buf : List Byte} (h : buf.length < 64)
    (bytes : List Byte) :
    absorb v md (cv, buf) bytes
      = ((blocks64 ((buf ++ bytes).length / 64) (buf ++ bytes)).foldl (compressChain v md) cv,
          (buf ++ bytes).drop (64 * ((buf ++ bytes).length / 64))) := by
  induction bytes generalizing cv buf with
  | nil => simp [absorb, Nat.div_eq_of_lt h, blocks64]
  | cons x xs ih =>
    have hsplit : buf ++ x :: xs = (buf ++ [x]) ++ xs := by simp
    rw [absorb, List.foldl_cons, ← absorb, hsplit]
    have hlen : (buf ++ [x]).length = buf.length + 1 := by simp
    by_cases hfull : (buf ++ [x]).length = 64
    · have hstep : absorbByte v md (cv, buf) x = (compressChain v md cv (buf ++ [x]), []) := if_pos hfull
      have hcount : ((buf ++ [x]) ++ xs).length / 64 = xs.length / 64 + 1 := by
        rw [List.length_append, hfull]
        omega
      rw [hstep, ih _ (by simp), List.nil_append, hcount, blocks64_succ, List.foldl_cons,
        List.take_left' hfull, List.drop_left' hfull, Nat.mul_succ, Nat.add_comm, ← List.drop_drop,
        List.drop_left' hfull]
    · have hstep : absorbByte v md (cv, buf) x = (cv, buf ++ [x]) := if_neg hfull
      rw [hstep, ih _ (by omega)]

/-! ### The whole-message form (R84) -/

/-- A chaining state and its eight words determine each other (R19). -/
theorem hOfChain_eq_iff {cv : Chain} {w : HWords} : hOfChain cv = w ↔ cv = chainOfH w := by
  refine Iff.symm ((eq_append (m := 32 + 32 + 32 + 32 + 32 + 32 + 32) (n := 32)).trans ?_)
  simp only [extractLsb'_eq_append, and_assoc]
  cases w
  simp [hOfChain]

@[simp] theorem hOfChain_chainOfH (w : HWords) : hOfChain (chainOfH w) = w := hOfChain_eq_iff.mpr rfl

theorem foldl_compressChain_standardDigest (md : Mode) (w : HWords) (blks : List (List Byte)) :
    blks.foldl (compressChain .standardDigest md) (chainOfH w) = chainOfH (blks.foldl compressStd w) :=
  List.foldl_hom chainOfH fun w blk => congrArg (fun u => chainOfH (compressStd u blk)) (hOfChain_chainOfH w)

/-- Finalizing the rest of a message after its whole blocks compresses the other blocks of the padded message. -/
theorem finalizeStd_rest (w : HWords) (m : List Byte) :
    finalizeStd ((blocks64 (m.length / 64) m).foldl compressStd w) (m.drop (64 * (m.length / 64))) m.length
      = bytesOfH ((blocks64 ((m.length + 8) / 64 + 1) (m ++ padStd m.length)).foldl compressStd w) := by
  have hle : 64 * (m.length / 64) ≤ m.length := Nat.mul_div_le _ _
  have htail : m.drop (64 * (m.length / 64)) ++ padStd m.length
      = (m ++ padStd m.length).drop (64 * (m.length / 64)) := (List.drop_append_of_le_length hle).symm
  have hcount : (m.length + 8) / 64 + 1
      = m.length / 64 + (m.drop (64 * (m.length / 64)) ++ padStd m.length).length / 64 := by
    rw [htail, List.length_drop, length_append_padStd]
    omega
  rw [hcount, blocks64_add, blocks64_append_left hle, List.foldl_append, finalizeStd, htail]

/-- Settles O27: absorbing compresses the whole blocks of the message, and finalizing the blocks that are left of the
padded message; the digest of the empty message is evaluated. -/
theorem standardDigestOfAWholeMessage : Obligations.StandardDigestOfAWholeMessage := by
  refine ⟨fun mode m _ => ?_, by decide +kernel⟩
  rw [digestFrom, absorb_eq_blocks64 _ _ _ (by decide), List.nil_append, foldl_compressChain_standardDigest,
    finalize, hOfChain_chainOfH, finalizeStd_rest]

end Sys2Proof.Machine
end

section
/-! SUPPORT. FastMixDigest's block functions (41_fastmix_digest.md R87 to R91) and its whole-message form (R92), with
the collisions that R93 names: O28, O29, O30. -/

namespace Sys2Proof.Machine

/-! ### The mix primitive (R88) -/

theorem rotr64_eq_rotateRight (x : Word64) {n : Nat} (hn : n < 64) : rotr64 x n = x.rotateRight n := by
  rw [rotr64, BitVec.rotateRight_def, Nat.mod_eq_of_lt hn]

theorem rotl64_eq_rotateLeft (x : Word64) {n : Nat} (hn : n < 64) : rotl64 x n = x.rotateLeft n := by
  rw [rotl64, BitVec.rotateLeft_def, Nat.mod_eq_of_lt hn]

/-- Settles O28: the rotations of `mix` are those of the core library; the rule's cases are evaluated. -/
theorem mixRunsFourLinesInOrder : Obligations.MixRunsFourLinesInOrder :=
  ⟨fun x y => by simp only [mix, rotr64_eq_rotateRight, rotl64_eq_rotateLeft, Nat.reduceLT], by decide⟩

/-! ### Ingestion (R87) -/

theorem byteAt_replicate {i n : Nat} (h : i < n) (b : Byte) : byteAt (List.replicate n b) i = b := by
  simp [byteAt, h]

/-- A word of equal bytes does not depend on where it is read. -/
theorem be64_replicate {i n : Nat} (h : i + 8 ≤ n) (b : Byte) :
    be64 (List.replicate n b) i = be64 (List.replicate 8 b) 0 := by
  simp (disch := omega) only [be64, be32, byteAt_replicate]

theorem ingest_of_equal_halves (s : SWords) {blk : List Byte}
    (h : ∀ j < 4, be64 blk (8 * j) = be64 blk (8 * (j + 4))) : ingest s blk = s := by
  have h0 : be64 blk 0 = be64 blk 32 := h 0 (by decide)
  have h1 : be64 blk 8 = be64 blk 40 := h 1 (by decide)
  have h2 : be64 blk 16 = be64 blk 48 := h 2 (by decide)
  have h3 : be64 blk 24 = be64 blk 56 := h 3 (by decide)
  simp only [ingest, h0, h1, h2, h3, BitVec.xor_assoc, BitVec.xor_self, BitVec.xor_zero]

theorem ingest_replicate (s : SWords) (b : Byte) : ingest s (List.replicate 64 b) = s :=
  ingest_of_equal_halves s fun _ _ => (be64_replicate (by omega) b).trans (be64_replicate (by omega) b).symm

/-! ### Rounds and compression (R89, R90) -/

theorem roundsFm_eq_iterate (n : Nat) (s : SWords) : roundsFm n s = roundFm^[n] s := by
  induction n generalizing s with
  | zero => rfl
  | succ n ih => rw [roundsFm, ih, Function.iterate_succ_apply]

theorem compressFm_eq_iterate (rounds : Nat) (s : SWords) (blk : List Byte) :
    compressFm rounds s blk = roundFm^[rounds] (ingest s blk) :=
  roundsFm_eq_iterate rounds _

theorem compressFm_replicate (rounds : Nat) (s : SWords) (b : Byte) :
    compressFm rounds s (List.replicate 64 b) = roundFm^[rounds] s := by
  rw [compressFm_eq_iterate, ingest_replicate]

/-- Blocks of one repeated byte ingest nothing, so compressing them only runs rounds. -/
theorem foldl_compressFm_replicate (rounds k : Nat) (s : SWords) (b : Byte) :
    (List.replicate k (List.replicate 64 b)).foldl (compressFm rounds) s = roundFm^[rounds * k] s := by
  induction k generalizing s with
  | zero => rfl
  | succ k ih =>
    rw [List.replicate_succ, List.foldl_cons, ih, compressFm_replicate, ← Function.iterate_add_apply, Nat.mul_succ]

/-! ### Finalization (R91) -/

/-- The padding of the final block takes over zeros that end the buffer. -/
theorem finalizeFm_append_zeros (rounds : Nat) (s : SWords) {buf : List Byte} {j : Nat} (h : buf.length + j ≤ 64) :
    finalizeFm rounds s (buf ++ List.replicate j 0) = finalizeFm rounds s buf := by
  have hpad : j + (64 - (buf.length + j)) = 64 - buf.length := by omega
  simp only [finalizeFm, zeroBytes, List.append_assoc, List.replicate_append_replicate, List.length_append,
    List.length_replicate, hpad]

theorem finalizeFm_nil (rounds : Nat) (s : SWords) :
    finalizeFm rounds s [] = bytesOfS (mix13 (mix02 (roundFm^[rounds] s))) :=
  congrArg (fun z => bytesOfS (mix13 (mix02 z))) (compressFm_replicate rounds s 0)

/-! ### The whole-message form (R92) -/

/-- The words are the adjacent fields of the state that joins them (R19). -/
@[simp] theorem sOfChain_chainOfS (w : SWords) : sOfChain (chainOfS w) = w := by
  have hfields := (eq_append (m := 64 + 64 + 64) (n := 64)).mp (rfl : chainOfS w = w.s0 ++ w.s1 ++ w.s2 ++ w.s3)
  simp only [extractLsb'_eq_append, and_assoc] at hfields
  obtain ⟨h0, h1, h2, h3⟩ := hfields
  exact congr (congr (congr (congrArg SWords.mk h0) h1) h2) h3

theorem sOfChain_foldl_compressChain (mode : Mode) (cv : Chain) (blks : List (List Byte)) :
    sOfChain (blks.foldl (compressChain .fastMixDigest mode) cv)
      = blks.foldl (compressFm (roundCount mode)) (sOfChain cv) :=
  (List.foldl_hom sOfChain fun _ _ => (sOfChain_chainOfS _).symm).symm

/-- The whole-message form, from any initial chaining state. -/
theorem digestFrom_fastMixDigest (mode : Mode) (iv : Chain) (m : List Byte) :
    digestFrom .fastMixDigest mode iv m
      = finalizeFm (roundCount mode)
          ((blocks64 (m.length / 64) m).foldl (compressFm (roundCount mode)) (sOfChain iv))
          (m.drop (64 * (m.length / 64))) := by
  rw [digestFrom, absorb_eq_blocks64 _ _ _ (by decide), List.nil_append, finalize, sOfChain_foldl_compressChain]

/-- Settles O29: the block functions are the rule's by their definitions, and the whole-message form is taken from the
words of the initial state. -/
theorem fastMixDigestOfAWholeMessage : Obligations.FastMixDigestOfAWholeMessage := by
  refine ⟨⟨rfl, rfl, rfl⟩, fun s blk => ⟨rfl, ingest_of_equal_halves s⟩, ingest_replicate, fun _ => rfl,
    compressFm_eq_iterate, fun _ _ _ _ => rfl, fun mode iv m _ => ?_⟩
  rw [digestFrom_fastMixDigest, sOfChain_chainOfS]

/-! ### The collisions of the rule (R93) -/

/-- Zeros that stay in the last partial block do not change the digest. -/
theorem digestFrom_fastMixDigest_append_zeros (mode : Mode) (iv : Chain) {m : List Byte} {j : Nat}
    (h : m.length % 64 + j ≤ 63) :
    digestFrom .fastMixDigest mode iv (m ++ List.replicate j 0) = digestFrom .fastMixDigest mode iv m := by
  have hle : 64 * (m.length / 64) ≤ m.length := Nat.mul_div_le _ _
  have hcount : (m ++ List.replicate j 0).length / 64 = m.length / 64 := by
    rw [List.length_append, List.length_replicate]
    omega
  have hrest : (m.drop (64 * (m.length / 64))).length + j ≤ 64 := by
    rw [List.length_drop]
    omega
  rw [digestFrom_fastMixDigest, digestFrom_fastMixDigest, hcount, blocks64_append_left hle,
    List.drop_append_of_le_length hle, finalizeFm_append_zeros _ _ hrest]

theorem blocks64_replicate (k : Nat) (b : Byte) :
    blocks64 k (List.replicate (64 * k) b) = List.replicate k (List.replicate 64 b) := by
  induction k with
  | zero => rfl
  | succ k ih =>
    have htake : min 64 (64 * (k + 1)) = 64 := by omega
    have hdrop : 64 * (k + 1) - 64 = 64 * k := by omega
    rw [blocks64_succ, List.take_replicate, List.drop_replicate, htake, hdrop, ih, List.replicate_succ (n := k)]

/-- Whole blocks of one repeated byte, then less than a block of zeros: every block, the final one too, runs its
rounds and ingests nothing. -/
theorem digestFrom_fastMixDigest_replicate (mode : Mode) (iv : Chain) (k : Nat) (b : Byte) {j : Nat} (hj : j ≤ 63) :
    digestFrom .fastMixDigest mode iv (List.replicate (64 * k) b ++ List.replicate j 0)
      = bytesOfS (mix13 (mix02 (roundFm^[roundCount mode * (k + 1)] (sOfChain iv)))) := by
  have hlen : (List.replicate (64 * k) b).length = 64 * k := List.length_replicate
  have hrest : (List.replicate (64 * k) b).drop (64 * k) = [] := List.drop_eq_nil_of_le hlen.le
  rw [digestFrom_fastMixDigest_append_zeros mode iv (by omega), digestFrom_fastMixDigest, hlen,
    Nat.mul_div_cancel_left k (by decide), hrest, blocks64_replicate, foldl_compressFm_replicate, finalizeFm_nil,
    ← Function.iterate_add_apply, Nat.mul_succ, Nat.add_comm]

/-- The words of the all-zero chaining state are a fixed point of the round. -/
theorem iterate_roundFm_zero (n : Nat) : roundFm^[n] (sOfChain 0) = sOfChain 0 :=
  Function.iterate_fixed (by decide) n

theorem digestFrom_fastMixDigest_zeros (mode : Mode) (n : Nat) :
    digestFrom .fastMixDigest mode 0 (List.replicate n 0) = List.replicate 32 0 := by
  have hsplit : List.replicate n (0 : Byte) = List.replicate (64 * (n / 64)) 0 ++ List.replicate (n % 64) 0 := by
    rw [List.replicate_append_replicate, Nat.div_add_mod]
  rw [hsplit, digestFrom_fastMixDigest_replicate mode 0 _ 0 (by omega), iterate_roundFm_zero]
  decide

/-- Settles O30: zeros at the end are taken over by the padding, a block of equal bytes runs rounds only (two passes of
two rounds are one of four), and the zero state stays. -/
theorem fastMixCollisionsOfTheRule : Obligations.FastMixCollisionsOfTheRule := by
  refine ⟨fun mode iv m j h => digestFrom_fastMixDigest_append_zeros mode iv h, fun mode iv => ?_,
    fun rounds s blk h => congrArg (roundsFm rounds) (ingest_of_equal_halves s h), fun iv => ?_,
    digestFrom_fastMixDigest_zeros⟩
  · exact (digestFrom_fastMixDigest_append_zeros mode iv (m := []) (j := 1) (by decide)).symm
  · exact (digestFrom_fastMixDigest_replicate .fast iv 1 0x61 (Nat.zero_le 63)).trans
      (digestFrom_fastMixDigest_replicate .secure iv 0 0 (Nat.zero_le 63)).symm

end Sys2Proof.Machine
end

section
/-! SUPPORT. Absorbing one byte (42_engine_commands.md R94), and that the split of the stream does not matter: O31. -/

namespace Sys2Proof.Machine

/-! ### One byte (R94) -/

theorem absorb_nil (v : Variant) (md : Mode) (st : Chain × List Byte) : absorb v md st [] = st := rfl

/-- The byte that fills the buffer compresses the block and empties the buffer. -/
theorem absorb_singleton_of_full (v : Variant) (md : Mode) (cv : Chain) {buf : List Byte} (h : buf.length = 63)
    (x : Byte) : absorb v md (cv, buf) [x] = (compressChain v md cv (buf ++ [x]), []) :=
  if_pos (by simp [h])

/-- Any other byte is only buffered. -/
theorem absorb_singleton_of_not_full (v : Variant) (md : Mode) (cv : Chain) {buf : List Byte} (h : buf.length ≠ 63)
    (x : Byte) : absorb v md (cv, buf) [x] = (cv, buf ++ [x]) :=
  if_neg (by simpa using h)

/-- Absorbing keeps the buffer short of a block (R22). -/
theorem absorb_length_lt (v : Variant) (md : Mode) {st : Chain × List Byte} (h : st.2.length < 64)
    (bytes : List Byte) : (absorb v md st bytes).2.length < 64 := by
  rw [absorb_length v md h]
  exact Nat.mod_lt _ (by decide)

/-- Settles O31: one byte fills the buffer or is buffered; a stream in two parts is absorbed as the whole, since
absorbing folds over its bytes; the buffer's length is a remainder mod 64. -/
theorem absorbIsChunkingInvariant : Obligations.AbsorbIsChunkingInvariant := by
  intro v md cv buf hbuf
  refine ⟨fun x => ?_, absorb_nil v md _, fun m1 m2 => (absorb_append v md _ m1 m2).symm,
    absorb_length_lt v md hbuf⟩
  split
  case isTrue hfull =>
    rw [absorb_singleton_of_full v md cv hfull]
    cases v <;> rfl
  case isFalse hroom => exact absorb_singleton_of_not_full v md cv hroom x

end Sys2Proof.Machine
end

section
/-! SUPPORT. The suffix of a nonce (43_search_commands.md R105): the decimal text by the digits of the library: O41. -/

namespace Sys2Proof.Machine

/-! ### The decimal text is the digits of the number, the most significant first -/

theorem toNat_digitByte {d : Nat} (h : d < 10) : (digitByte d).toNat = 0x30 + d := by
  simp only [digitByte, BitVec.toNat_ofNat]
  omega

theorem decimalDigits_eq_digits {fuel n : Nat} (h0 : n ≠ 0) (h : n < 10 ^ fuel) (acc : List Byte) :
    decimalDigits fuel n acc = (Nat.digits 10 n).reverse.map digitByte ++ acc := by
  induction fuel generalizing n acc with
  | zero => omega
  | succ fuel ih =>
    unfold decimalDigits
    split
    case isTrue hlt => simp [Nat.digits_of_lt 10 n h0 hlt]
    case isFalse hge =>
      have hdiv : n / 10 < 10 ^ fuel := Nat.div_lt_of_lt_mul (by rwa [pow_succ'] at h)
      rw [ih (by omega) hdiv, Nat.digits_eq_cons_digits_div (by decide) h0]
      simp

theorem decimalText_eq_digits {n : Word32} (h : n ≠ 0) :
    decimalText n = (Nat.digits 10 n.toNat).reverse.map digitByte := by
  have h0 : n.toNat ≠ 0 := BitVec.toNat_ne.mp h
  rw [decimalText, decimalDigits_eq_digits h0 (by omega), List.append_nil]

theorem decimalText_zero : decimalText 0 = [0x30] := rfl

/-! ### Length, digits, value and first digit -/

theorem decimalText_length_bounds (n : Word32) : 1 ≤ (decimalText n).length ∧ (decimalText n).length ≤ 10 := by
  by_cases h : n = 0
  · subst h
    decide
  · have h0 : n.toNat ≠ 0 := BitVec.toNat_ne.mp h
    rw [decimalText_eq_digits h, List.length_map, List.length_reverse]
    exact ⟨List.length_pos_iff.mpr (Nat.digits_ne_nil_iff_ne_zero.mpr h0),
      (Nat.digits_length_le_iff (by decide) _).mpr (by omega)⟩

theorem decimalText_mem_bounds {n : Word32} {b : Byte} (hb : b ∈ decimalText n) :
    0x30 ≤ b.toNat ∧ b.toNat ≤ 0x39 := by
  by_cases h : n = 0
  · subst h
    rw [decimalText_zero, List.mem_singleton] at hb
    subst hb
    decide
  · rw [decimalText_eq_digits h] at hb
    obtain ⟨d, hd, rfl⟩ := List.mem_map.mp hb
    have hd10 := Nat.digits_lt_base (by decide) (List.mem_reverse.mp hd)
    rw [toNat_digitByte hd10]
    omega

/-- Reading the text from its first character gives the number back. -/
theorem foldl_decimalText (n : Word32) :
    (decimalText n).foldl (fun a b => 10 * a + (b.toNat - 0x30)) 0 = n.toNat := by
  by_cases h : n = 0
  · subst h
    rfl
  · rw [decimalText_eq_digits h, List.foldl_map, List.foldl_reverse]
    conv_rhs => rw [← Nat.ofDigits_digits 10 n.toNat, Nat.ofDigits_eq_foldr]
    refine List.foldr_ext _ _ _ fun d hd a => ?_
    rw [toNat_digitByte (Nat.digits_lt_base (by decide) hd), Nat.cast_id]
    omega

/-- No leading zero: the last of the library's digits is the first character, and it is not 0. -/
theorem head?_decimalText_ne_zero {n : Word32} (h : n ≠ 0) : (decimalText n).head? ≠ some 0x30 := by
  have h0 : n.toNat ≠ 0 := BitVec.toNat_ne.mp h
  have hne := Nat.digits_ne_nil_iff_ne_zero (b := 10).mpr h0
  have hlast := Nat.getLast_digit_ne_zero 10 h0
  have hlt := Nat.digits_lt_base (by decide) (List.getLast_mem hne)
  rw [decimalText_eq_digits h, List.head?_map, List.head?_reverse, List.getLast?_eq_some_getLast hne,
    Option.map_some, ne_eq, Option.some.injEq]
  intro heq
  have hval := (toNat_digitByte hlt).symm.trans (congrArg BitVec.toNat heq)
  have hzero : (0x30 : Byte).toNat = 0x30 := rfl
  omega

/-! ### Which forms a variant admits (R69, R70) -/

theorem legal_encode (v : Variant) (i : Instr) : legal v (encode i) = (i.wellFormed && i.allowedUnder v) := by
  rw [Bool.eq_iff_iff, legal_eq_true]
  simp [legalCommand_eq_some, decode_encode]

/-- Settles O41: the decimal text by the library's digits of the number; the four bytes by their definition; the
rule's examples are evaluated; the legality of the forms by `legal_encode`. -/
theorem suffixesAreDecimalTextOrLittleEndian : Obligations.SuffixesAreDecimalTextOrLittleEndian := by
  refine ⟨fun n => ?_, by decide, by decide, by decide, by decide, by decide, fun k => ?_⟩
  · obtain ⟨hpos, hten⟩ := decimalText_length_bounds n
    exact ⟨hpos, hten, fun _ => decimalText_mem_bounds, foldl_decimalText n, head?_decimalText_ne_zero, rfl⟩
  · exact ⟨legal_encode _ _, legal_encode _ _, legal_encode _ _, legal_encode _ _⟩

end Sys2Proof.Machine
end

section
/-! SUPPORT. The predicate pz (43_search_commands.md R107) by the nibbles of a digest: O42. -/

namespace Sys2Proof.Machine

theorem prefixZero_iff {d : List Byte} {k : Nat} : prefixZero d k = true ↔ k ≤ 64 ∧ ∀ j < k, nibble d j = 0 := by
  simp [prefixZero]

theorem nibble_even (d : List Byte) (i : Nat) : nibble d (2 * i) = (byteAt d i).extractLsb' 4 4 := by
  simp [nibble]

theorem nibble_odd (d : List Byte) (i : Nat) : nibble d (2 * i + 1) = (byteAt d i).extractLsb' 0 4 := by
  have hdiv : (2 * i + 1) / 2 = i := by omega
  simp [nibble, hdiv]

theorem byte_eq_zero_iff {b : Byte} : b = 0 ↔ b.extractLsb' 4 4 = 0#4 ∧ b.extractLsb' 0 4 = 0#4 :=
  eq_append (x := b) (a := 0#4) (b := 0#4)

/-- A byte is 0 exactly where its two nibbles are. -/
theorem forall_nibble_eq_zero_iff {d : List Byte} {n : Nat} :
    (∀ j < 2 * n, nibble d j = 0) ↔ ∀ i < n, byteAt d i = 0 := by
  constructor
  · intro h i hi
    exact byte_eq_zero_iff.mpr ⟨nibble_even d i ▸ h (2 * i) (by omega), nibble_odd d i ▸ h (2 * i + 1) (by omega)⟩
  · intro h j hj
    obtain ⟨hhigh, hlow⟩ := byte_eq_zero_iff.mp (h (j / 2) (by omega))
    unfold nibble
    split
    · exact hhigh
    · exact hlow

theorem prefixZero_all_iff {d : List Byte} (h : d.length = 32) :
    prefixZero d 64 = true ↔ d = List.replicate 32 0 := by
  rw [prefixZero_iff, forall_nibble_eq_zero_iff (n := 32), List.eq_replicate_iff, List.forall_mem_iff_forall_getElem]
  have hbyte : ∀ i (hi : i < d.length), byteAt d i = d[i] := fun i hi => List.getD_eq_getElem d 0 hi
  constructor
  · rintro ⟨-, hz⟩
    exact ⟨h, fun i hi => hbyte i hi ▸ hz i (h ▸ hi)⟩
  · rintro ⟨-, hz⟩
    exact ⟨le_rfl, fun i hi => (hbyte i (h ▸ hi)).trans (hz i (h ▸ hi))⟩

/-- Settles O42: the predicate by its nibbles, read at the byte of their index, and the cases of the rule. -/
theorem prefixPredicateCountsZeroNibbles : Obligations.PrefixPredicateCountsZeroNibbles := by
  intro d k hd
  refine ⟨?_, prefixZero_iff.mpr (by simp), prefixZero_all_iff hd, fun hk => ?_⟩
  · rw [prefixZero_iff]
    refine and_congr_right fun _ => forall₂_congr fun j _ => ?_
    unfold nibble byteAt
    split
    case isTrue => rfl
    case isFalse hodd =>
      have hdiv : (j - 1) / 2 = j / 2 := by omega
      rw [hdiv]
      rfl
  · rw [Bool.eq_false_iff, ne_eq, prefixZero_iff]
    omega

end Sys2Proof.Machine
end

section
/-! SUPPORT. The search loop and its outcome (43_search_commands.md R109 to R113): what an outcome says of its range,
and the result registers it leaves: O45, O46. -/

namespace Sys2Proof.Machine

/-! ### What an outcome says of its range (R109, R112) -/

/-- No nonce from `lo` to below `hi` has a candidate that the predicate holds of. -/
def NoHit (cand : Word32 → List Byte) (k lo hi : Nat) : Prop :=
  ∀ n : Word32, lo ≤ n.toNat → n.toNat < hi → prefixZero (cand n) k = false

/-- The outcome is right for the `count` nonces from `start` on: FOUND reports the first hit of the range, NOTFOUND
that the whole range has none, CANCELLED(a) that the first `a` nonces, fewer than the range has, have none. -/
def SearchOutcome.CorrectFor (cand : Word32 → List Byte) (k : Nat) (start : Word32) (count : Nat) :
    SearchOutcome → Prop
  | .found n d a => start.toNat ≤ n.toNat ∧ n.toNat < start.toNat + count ∧ prefixZero (cand n) k = true
      ∧ NoHit cand k start.toNat n.toNat ∧ d = cand n ∧ a.toNat = n.toNat - start.toNat + 1
  | .notFound a => NoHit cand k start.toNat (start.toNat + count) ∧ a.toNat = count
  | .cancelled a => NoHit cand k start.toNat (start.toNat + a.toNat) ∧ a.toNat < count

section Loop

variable {cand : Word32 → List Byte} {k count : Nat} {start : Word32}

theorem noHit_self (lo : Nat) : NoHit cand k lo lo := fun _ hlo hhi => by omega

theorem NoHit.mono {lo hi hi' : Nat} (h : NoHit cand k lo hi) (hle : hi' ≤ hi) : NoHit cand k lo hi' :=
  fun n hlo hhi => h n hlo (hhi.trans_le hle)

/-- A range with no hit grows by a nonce that is none. -/
theorem NoHit.succ {lo : Nat} {n : Word32} (h : NoHit cand k lo n.toNat) (hn : ¬ prefixZero (cand n) k = true) :
    NoHit cand k lo (n.toNat + 1) := by
  intro m hlo hhi
  by_cases hm : m.toNat = n.toNat
  · exact BitVec.eq_of_toNat_eq hm ▸ Bool.eq_false_iff.mpr hn
  · exact h m hlo (by omega)

/-- The loop at the nonce `n`, with no hit before it and `left` nonces of the range to test. -/
theorem searchLoop_correctFor {left : Nat} {n : Word32} (hrange : start.toNat + count < 2 ^ 32)
    (hle : start.toNat ≤ n.toNat) (hleft : n.toNat + left = start.toNat + count)
    (hno : NoHit cand k start.toNat n.toNat) :
    (searchLoop cand k start left n).CorrectFor cand k start count := by
  have hone : (1 : Word32).toNat = 1 := rfl
  induction left generalizing n with
  | zero => exact ⟨hleft ▸ hno, (BitVec.toNat_sub_of_le hle).trans (by omega)⟩
  | succ left ih =>
    unfold searchLoop
    split
    case isTrue hhit =>
      have hsub : (n - start).toNat = n.toNat - start.toNat := BitVec.toNat_sub_of_le hle
      refine ⟨hle, by omega, hhit, hno, rfl, ?_⟩
      rw [BitVec.toNat_add_of_lt (by omega), hsub, hone]
    case isFalse hmiss =>
      have hnext : (n + 1).toNat = n.toNat + 1 := BitVec.toNat_add_of_lt (by omega)
      exact ih (by omega) (by omega) (hnext ▸ hno.succ hmiss)

/-- The nonces before the last attempt of an outcome are in the range and have no hit. -/
theorem SearchOutcome.CorrectFor.noHit_before {o : SearchOutcome} {c : Nat} (h : o.CorrectFor cand k start count)
    (hc : c < o.attempts.toNat) : NoHit cand k start.toNat (start.toNat + c) ∧ c < count := by
  cases o with
  | found n d a =>
    obtain ⟨hle, hlt, -, hno, -, ha⟩ := h
    have hca : c < n.toNat - start.toNat + 1 := ha ▸ hc
    exact ⟨hno.mono (by omega), by omega⟩
  | notFound a =>
    obtain ⟨hno, ha⟩ := h
    have hca : c < count := ha ▸ hc
    exact ⟨hno.mono (by omega), hca⟩
  | cancelled a =>
    obtain ⟨hno, ha⟩ := h
    exact ⟨hno.mono (Nat.add_le_add_left hc.le _), hc.trans ha⟩

/-- Cancellation keeps the outcome right, wherever the draw lets it stop (R113). -/
theorem SearchOutcome.CorrectFor.cancelChoice {o : SearchOutcome} (h : o.CorrectFor cand k start count)
    (d : Word32) : (cancelChoice o d).CorrectFor cand k start count := by
  unfold Machine.cancelChoice
  split
  case isTrue hc =>
    have hstop : (BitVec.ofNat 32 (d.toNat % (o.attempts.toNat + 1))).toNat = d.toNat % (o.attempts.toNat + 1) :=
      Nat.mod_eq_of_lt (hc.trans o.attempts.isLt)
    change NoHit _ _ _ _ ∧ _
    rw [hstop]
    exact h.noHit_before hc
  case isFalse => exact h

end Loop

theorem State.searchOutcome_correctFor (s : State) (k : Nat) (f : Suffix) (p : Pending) :
    (s.searchOutcome k f p).CorrectFor (s.candidate f) k p.nonceStart (p.maxNonce.toNat - p.nonceStart.toNat) := by
  have hloop : (uncancelledOutcome (s.candidate f) k p).CorrectFor (s.candidate f) k p.nonceStart
      (p.maxNonce.toNat - p.nonceStart.toNat) :=
    searchLoop_correctFor (by omega) le_rfl rfl (noHit_self _)
  unfold State.searchOutcome
  split
  · exact hloop.cancelChoice _
  · exact hloop

/-- A completed SEARCH wrote an outcome that is right for its latched range. -/
theorem exec_search_next {s t : State} {p : Pending} {k : BitVec 7} {f : Suffix} (hr : s.ready (.search k f) p)
    (h : exec (.search k f) s = .next t) :
    ∃ o : SearchOutcome, t = (s.writeOutcome o).drawElapsed.finish
      ∧ o.CorrectFor (s.candidate f) k.toNat p.nonceStart (p.maxNonce.toNat - p.nonceStart.toNat) := by
  rw [exec_ready hr] at h
  cases h
  exact ⟨_, rfl, s.searchOutcome_correctFor k.toNat f p⟩

/-! ### The result registers (R111) -/

/-- STATUS holds the number of RESULT in bits 5:4 (R28). -/
theorem State.statusExact_resultField (s : State) : s.statusExact.extractLsb' 4 2 = s.result.code := by
  unfold State.statusExact statusWord
  iterate 4 rw [BitVec.extractLsb'_append_eq_of_le (by decide)]
  exact BitVec.extractLsb'_append_eq_right

/-- Settles O45: the registers that the outcome of the completed SEARCH leaves, outcome by outcome. -/
theorem searchResultRegistersOfEachOutcome : Obligations.SearchResultRegistersOfEachOutcome := by
  intro s t p k f hr h
  obtain ⟨o, rfl, ho⟩ := exec_search_next hr h
  refine ⟨?_, s.draws, by simp [State.draw, State.drawAfter]⟩
  rw [State.statusExact_resultField]
  cases o with
  | found n d a =>
    obtain ⟨hle, -, -, -, rfl, ha⟩ := ho
    exact .inl ⟨rfl, hle, ha, rfl, rfl⟩
  | notFound a => exact .inr (.inl ⟨rfl, rfl, ho.2, rfl, rfl⟩)
  | cancelled a => exact .inr (.inr ⟨rfl, rfl, ho.2, rfl, rfl⟩)

/-- Settles O46: the outcome of the completed SEARCH is right for its range, outcome by outcome. -/
theorem searchOutcomesAreMinimal : Obligations.SearchOutcomesAreMinimal := by
  intro s t p k f hr h
  obtain ⟨o, rfl, ho⟩ := exec_search_next hr h
  cases o with
  | found n d a =>
    obtain ⟨hle, hlt, hhit, hno, -, -⟩ := ho
    have hmax : n.toNat < p.maxNonce.toNat := by omega
    exact ⟨fun _ => ⟨hle, hmax, hhit, hno⟩, nofun, nofun⟩
  | notFound a => exact ⟨nofun, fun _ n hlo hhi => ho.1 n hlo (by omega), nofun⟩
  | cancelled a => exact ⟨nofun, nofun, fun _ => ho.1⟩

end Sys2Proof.Machine
end

section
/-! SUPPORT. The output `found_out` (60_exceptions.md R128): it follows RESULT, whose lifetime is O17's: O54. -/

namespace Sys2Proof.Machine

theorem State.foundOut_iff {s : State} : s.foundOut = true ↔ s.result = .found := by
  simp [State.foundOut]

theorem State.foundOut_eq_false_iff {s : State} : s.foundOut = false ↔ s.result ≠ .found := by
  simp [State.foundOut]

/-- RESULT changes at the completion of a SEARCH, or it is cleared at the acceptance of SEARCH or VERIFY or at a
hardware reset (R43): the two clauses of O17 about RESULT. -/
theorem step_result_lifetime {s t : State} (hl : s.pendingLegal) (h : step s = .next t) :
    (t.result ≠ s.result →
      (∃ k f, s.completes (.search k f)) ∨ (∃ i c, s.accepts i c ∧ isSearchOrVerify i) ∨ s.resets)
    ∧ ((∃ i c, s.accepts i c ∧ isSearchOrVerify i) ∨ s.resets → t.result = .none) := by
  obtain ⟨-, -, -, -, -, -, -, -, hchange, hclear⟩ := statusFlagLifetimes.2 s t hl h
  exact ⟨hchange, fun he => (hclear he).2⟩

/-- RESULT was cleared when the SEARCH that completes was accepted (R28, R44). -/
theorem State.RecordInv.result_of_completes_search {s : State} {k : BitVec 7} {f : Suffix} (hinv : s.RecordInv)
    (hc : s.completes (.search k f)) : s.result = .none := by
  obtain ⟨-, p, hd, hp, -⟩ := hc
  have hop : opcodeOf p.word = 0x06#8 := by rw [decode_eq_ok.mp hd, opcodeOf_encode]; rfl
  exact (hinv.cleared p hp (.inl hop)).2

/-- Settles O54: each edge of `found_out` is a change of RESULT. A cleared RESULT leaves only the completion of a
SEARCH for the rise, and the invariant excludes that completion for the fall. -/
theorem foundOutRisesAndFalls : Obligations.FoundOutRisesAndFalls := by
  refine ⟨fun s => State.foundOut_iff, fun s t hl hinv h => ?_⟩
  obtain ⟨hchange, hclear⟩ := step_result_lifetime hl h
  simp only [State.foundOut_iff, State.foundOut_eq_false_iff]
  refine ⟨fun hs ht => ?rise, fun hs => ⟨fun ht => ?fall, fun he => ?cleared⟩⟩
  case rise =>
    rcases hchange (fun heq => hs (heq ▸ ht)) with hc | he
    · exact hc
    · cases ht.symm.trans (hclear he)
  case fall =>
    rcases hchange (hs ▸ ht) with ⟨k, f, hc⟩ | he
    · cases hs.symm.trans (hinv.result_of_completes_search hc)
    · exact he
  case cleared => simp [hclear he]

end Sys2Proof.Machine
end

section
/-! SUPPORT. The operand registers (10_state.md R31 to R34, R40; 70_reset_and_hazards.md R139): no completion reads
them, and the accept step copies them: O20. -/

namespace Sys2Proof.Machine

/-- The registers that a command takes its operands from. -/
inductive Reg.IsOperand : Reg → Prop where
  | dataIn : Reg.IsOperand .dataIn
  | nonceStart : Reg.IsOperand .nonceStart
  | maxNonce : Reg.IsOperand .maxNonce
  | nonceIn : Reg.IsOperand .nonceIn
  | expect (j : Fin 8) : Reg.IsOperand (.expect j)

theorem Reg.isOperand_iff {r : Reg} :
    r.IsOperand ↔ r ∈ [Reg.dataIn, .nonceStart, .maxNonce, .nonceIn] ∨ ∃ j, r = .expect j := by
  constructor
  · rintro (_ | _ | _ | _ | j) <;> simp
  · rintro (h | ⟨j, rfl⟩)
    · simp only [List.mem_cons, List.not_mem_nil, or_false] at h
      rcases h with rfl | rfl | rfl | rfl <;> constructor
    · exact .expect j

section OperandWrite

variable {r : Reg} (s : State) (v : Word32)

/-! ### A write to an operand register and the completion step (R45) -/

theorem State.hostWrite_operand_pend (hr : r.IsOperand) : (s.hostWrite r v).pend = s.pend := by
  cases hr <;> rfl

theorem State.hostWrite_operand_refusal (hr : r.IsOperand) (i : Instr) :
    (s.hostWrite r v).refusal i = s.refusal i := by
  cases hr <;> rfl

theorem State.hostWrite_operand_searchOutcome (hr : r.IsOperand) (k : Nat) (f : Suffix) (p : Pending) :
    (s.hostWrite r v).searchOutcome k f p = s.searchOutcome k f p := by
  cases hr <;> rfl

theorem State.hostWrite_operand_writeOutcome (hr : r.IsOperand) (o : SearchOutcome) :
    ((s.hostWrite r v).writeOutcome o).drawElapsed = ((s.writeOutcome o).drawElapsed).hostWrite r v := by
  cases hr <;> cases o <;> rfl

theorem State.hostWrite_operand_finish (hr : r.IsOperand) :
    (s.hostWrite r v).finish = s.finish.hostWrite r v := by
  cases hr <;> rfl

theorem State.hostWrite_operand_dropCommand (hr : r.IsOperand) (code : ErrCode) :
    (s.hostWrite r v).dropCommand code = (s.dropCommand code).hostWrite r v := by
  cases hr <;> rfl

/-- A command works on its latched operands: its effect and a write to an operand register commute. -/
theorem effectOf_hostWrite_operand (hr : r.IsOperand) (i : Instr) (p : Pending) :
    effectOf i (s.hostWrite r v) p = (effectOf i s p).hostWrite r v := by
  cases i with
  | search k f =>
    simp only [effectOf, s.hostWrite_operand_searchOutcome v hr, s.hostWrite_operand_writeOutcome v hr]
  | _ => cases hr <;> rfl

/-- The completion of a command and a write to an operand register commute (R139). -/
theorem exec_hostWrite_operand {i : Instr} {t : State} (hr : r.IsOperand) (h : exec i s = .next t) :
    exec i (s.hostWrite r v) = .next (t.hostWrite r v) := by
  rw [exec_eq_complete, State.complete_next] at h ⊢
  rw [s.hostWrite_operand_pend v hr, s.hostWrite_operand_refusal v hr]
  obtain ⟨p, hp, ⟨hnone, rfl⟩ | ⟨code, hcode, rfl⟩⟩ := h
  · refine ⟨p, hp, .inl ⟨hnone, ?_⟩⟩
    rw [effectOf_hostWrite_operand s v hr, State.hostWrite_operand_finish _ v hr]
  · exact ⟨p, hp, .inr ⟨code, hcode, s.hostWrite_operand_dropCommand v hr code⟩⟩

/-! ### The accept step copies the operand registers (R24, R44) -/

/-- What an accept step of an idle engine makes pending is the copy of the operand registers. -/
theorem State.eq_latched_of_acceptCommand_pend {c : Word32} {p : Pending} (hidle : s.pend = none)
    (h : (s.acceptCommand c).pend = some p) : p = s.latched c := by
  rcases s.acceptCommand_cases c with ⟨hp, -⟩ | ⟨-, -, e⟩ | ⟨-, i, -, -, e⟩ | ⟨-, i, -, -, e⟩
  · exact absurd hidle hp
  · simp [e, hidle] at h
  · simp [e, hidle] at h
  · simpa [e] using h.symm

end OperandWrite

/-- Settles O20: the completion of a command commutes with a write to an operand register
(`exec_hostWrite_operand`), and a command accepted after the write is latched with the value the register holds. -/
theorem operandRegistersMayBeReusedAfterAcceptance : Obligations.OperandRegistersMayBeReusedAfterAcceptance := by
  refine ⟨fun i s t r v hr h => exec_hostWrite_operand s v (Reg.isOperand_iff.mpr hr) h,
    fun s p r v c hidle hp => ?_⟩
  have hlatched : r.IsOperand → p = (s.hostWrite r v).latched c := fun hr =>
    (s.hostWrite r v).eq_latched_of_acceptCommand_pend ((s.hostWrite_operand_pend v hr).trans hidle) hp
  refine ⟨?_, ?_, ?_, ?_, fun j => ?_⟩
  · rintro rfl
    exact congrArg Pending.dataIn (hlatched .dataIn)
  · rintro rfl
    exact congrArg Pending.nonceStart (hlatched .nonceStart)
  · rintro rfl
    exact congrArg Pending.maxNonce (hlatched .maxNonce)
  · rintro rfl
    exact congrArg Pending.nonceIn (hlatched .nonceIn)
  · rintro rfl
    rw [hlatched (.expect j)]
    simp [State.hostWrite, State.latched]

end Sys2Proof.Machine
end

section
/-! SUPPORT. The state after a hardware reset (70_reset_and_hazards.md R132, R133): O55. -/

namespace Sys2Proof.Machine

/-! ### A hardware reset -/

/-- The reset state is what a hardware reset makes of itself. -/
theorem State.reset_eq_hardwareReset : State.reset = State.reset.hardwareReset := rfl

theorem State.resets.exists_hardwareReset {s t : State} (hr : s.resets) (h : step s = .next t) :
    ∃ u : State, t = u.hardwareReset := by
  obtain ⟨rest, hs⟩ := List.head?_eq_some_iff.mp hr
  rw [step, hs] at h
  cases h
  exact ⟨s.withSchedule rest, rfl⟩

/-- After a hardware reset the engine is idle, so that every read is exact: what the platform and the model keep over
the reset shows in no register. -/
theorem State.hardwareReset_readValue (u : State) : u.hardwareReset.readValue = State.reset.readValue := by
  funext r
  cases r <;> rfl

/-- A hardware reset leaves the empty StandardDigest stream. -/
theorem State.streamDigest_hardwareReset (u : State) :
    u.hardwareReset.streamDigest = digestFrom .standardDigest .standard (chainOfH ivStd) [] := rfl

/-- DIGEST is admitted in every state in which it is pending. -/
theorem State.ready_digest {s : State} {p : Pending} (hp : s.pend = some p) : s.ready .digest p :=
  ⟨hp, rfl, rfl, by simp [State.lengthCheckFails]⟩

/-- A DIGEST issued right after reset completes with the empty message's StandardDigest digest (R132). -/
theorem exec_digest_hardwareReset (u : State) (p : Pending) :
    ∃ t, exec .digest { u.hardwareReset with pend := some p } = .next t
      ∧ t.digestOut = digestWords (digestFrom .standardDigest .standard (chainOfH ivStd) []) :=
  ⟨_, exec_ready (State.ready_digest rfl), congrArg digestWords u.streamDigest_hardwareReset⟩

/-- Settles O55: the reset state and the state after a reset step are both what a hardware reset leaves, whose fields
are constants and whose reads are those of the reset state; the digest is the empty message's, from O27. -/
theorem resetStateOfTheRule : Obligations.ResetStateOfTheRule := by
  intro t ht
  obtain ⟨u, rfl⟩ : ∃ u : State, t = u.hardwareReset := by
    rcases ht with rfl | ⟨s, hr, h⟩
    · exact ⟨State.reset, State.reset_eq_hardwareReset⟩
    · exact hr.exists_hardwareReset h
  refine ⟨rfl, rfl, u.hardwareReset_cv.trans (by decide), rfl, rfl, rfl, rfl, ?registers, ?digestOut, ?expect,
    rfl, rfl, fun p => ?digest⟩
  case registers => rw [State.hardwareReset_readValue]; decide
  case digestOut => rw [State.hardwareReset_readValue]; decide
  case expect => rw [State.hardwareReset_readValue]; decide
  case digest =>
    obtain ⟨t, ht, hout⟩ := exec_digest_hardwareReset u p
    exact ⟨t, ht, hout.trans standardDigestOfAWholeMessage.2⟩

end Sys2Proof.Machine
end

section
/-! SUPPORT. The decoder on words written out and on the words of the commands (30_encoding.md section 2): O1, O2, O3. -/

namespace Sys2Proof.Machine

/-- Settles O1: the decoder is evaluated on the words written out. -/
theorem decodeReadsWordsWrittenFromTheFormats : Obligations.DecodeReadsWordsWrittenFromTheFormats := by
  unfold Obligations.DecodeReadsWordsWrittenFromTheFormats
  decide

/-- Settles O2: `decode_encode`, command by command from the fields of its word. -/
theorem decodeOfEncodeIsTheCommand : Obligations.DecodeOfEncodeIsTheCommand := decode_encode

/-- Settles O3: a word that decodes to a command has the fields of that command's word (`decode_eq_ok`). -/
theorem encodeOfDecodeIsTheWord : Obligations.EncodeOfDecodeIsTheWord :=
  fun _ _ h => (decode_eq_ok.mp h).symm

end Sys2Proof.Machine
end

section
/-! SUPPORT. The step of each agent, said once (10_state.md R15, R45, R48): O6, O8, O9, O10, O48, O56. -/

namespace Sys2Proof.Machine

/-! ### The host's accesses (R48) -/

section Bus

variable {s : State} {o : Nat} {v : Word32} {rest : List Event}

/-- The register of an aligned offset inside the window. -/
theorem exists_regAt (ha : o % 4 = 0) (hw : o < 0x80) : ∃ r, regAt o = some r :=
  Option.ne_none_iff_exists'.mp (by rw [ne_eq, regAt_eq_none]; omega)

/-- A host access that is not performed stops for one reason, looked for in the order width, alignment, window. -/
theorem hostAccess_fault {w : AccessWidth} {effect : Reg → State} {f : Fault} :
    hostAccess w o effect = .fault f ↔
      (w ≠ .word ∧ f = .busErrorWidth)
      ∨ (w = .word ∧ o % 4 ≠ 0 ∧ f = .busErrorMisaligned)
      ∨ (w = .word ∧ o % 4 = 0 ∧ 0x80 ≤ o ∧ f = .outsideWindow) := by
  unfold hostAccess
  by_cases hw : w = .word
  · by_cases ha : o % 4 = 0
    · by_cases hin : o < 0x80
      · obtain ⟨r, hr⟩ := exists_regAt ha hin
        simp [hw, ha, hr, hin]
      · have hnone : regAt o = none := regAt_eq_none.mpr (.inr (by omega))
        simp [hw, ha, hnone, Nat.le_of_not_lt hin, eq_comm]
    · simp [hw, ha, eq_comm]
  · simp [hw, eq_comm]

/-- The step of a scheduled host read of a register. -/
theorem step_hostRead {r : Reg} (hs : s.schedule = .hostRead .word o :: rest) (hr : regAt o = some r) :
    step s = .next ((s.withSchedule rest).hostRead r) := by
  rw [step, hs]
  exact hostAccess_next.mpr ⟨rfl, r, hr, rfl⟩

/-- The step of a scheduled host write to a register. -/
theorem step_hostWrite {r : Reg} (hs : s.schedule = .hostWrite .word o v :: rest) (hr : regAt o = some r) :
    step s = .next ((s.withSchedule rest).hostWrite r v) := by
  rw [step, hs]
  exact hostAccess_next.mpr ⟨rfl, r, hr, rfl⟩

/-- The step of a scheduled host access of any kind is that access. -/
theorem step_hostAccess {w : AccessWidth} {e : Event} (he : e = .hostRead w o ∨ ∃ v, e = .hostWrite w o v)
    (hs : s.schedule = e :: rest) : ∃ effect, step s = hostAccess w o effect := by
  rcases he with rfl | ⟨v, rfl⟩
  · exact ⟨_, by rw [step, hs]; rfl⟩
  · exact ⟨_, by rw [step, hs]; rfl⟩

end Bus

/-- Settles O10: a host access inside the window reaches its register, and the others stop as `hostAccess_fault`
says. -/
theorem busAccessesPerformedOrFaulted : Obligations.BusAccessesPerformedOrFaulted := by
  intro s w o e rest he hs
  obtain ⟨effect, hstep⟩ := step_hostAccess he hs
  rw [hstep]
  refine ⟨fun hw ha hin => ?_, fun hw => ?_, fun hw ha => ?_, fun hw ha hout => ?_⟩
  · obtain ⟨r, hr⟩ := exists_regAt ha hin
    exact ⟨effect r, hostAccess_next.mpr ⟨hw, r, hr, rfl⟩⟩
  · exact hostAccess_fault.mpr (.inl ⟨hw, rfl⟩)
  · exact hostAccess_fault.mpr (.inr (.inl ⟨hw, ha, rfl⟩))
  · exact hostAccess_fault.mpr (.inr (.inr ⟨hw, ha, hout, rfl⟩))

/-! ### The engine's step (R45) -/

section Engine

variable {s : State} {rest : List Event}

/-- The engine's step of a pending command's word is the command's meaning. -/
theorem engineStep_of_decode {p : Pending} {i : Instr} (hp : s.pend = some p) (hd : decode p.word = .ok i) :
    engineStep s = exec i s := by
  rw [engineStep, hp]
  simp only [hd]

theorem engineStep_idle (hp : s.pend = none) : engineStep s = .next s := by
  rw [engineStep, hp]

/-- The engine's step always answers a next state. -/
theorem engineStep_completes (s : State) : ∃ t, engineStep s = .next t := by
  rcases engineStep_cases s with ⟨-, he⟩ | ⟨p, i, hp, -, he⟩ | ⟨p, e, -, -, he⟩
  · exact ⟨_, he⟩
  · exact he ▸ exec_completes hp
  · exact ⟨_, he⟩

theorem step_of_schedule_nil (hs : s.schedule = []) : step s = engineStep s := by
  rw [step, hs]

theorem step_of_schedule_cons {e : Event} (hs : s.schedule = e :: rest) :
    step s = agentStep e (s.withSchedule rest) := by
  rw [step, hs]

end Engine

/-- Settles O6: on an empty schedule and at an engine event alike, the step is the engine's. -/
theorem stepRunsThePendingCommand : Obligations.StepRunsThePendingCommand := by
  refine ⟨fun s p i hp hd => ⟨fun hs => ?_, fun rest hs => ?_⟩, fun s hp => ⟨fun hs => ?_, fun rest hs => ?_⟩⟩
  · rw [step_of_schedule_nil hs, engineStep_of_decode hp hd]
  · rw [step_of_schedule_cons hs]
    exact engineStep_of_decode (s := s.withSchedule rest) hp hd
  · rw [step_of_schedule_nil hs, engineStep_idle hp]
  · rw [step_of_schedule_cons hs]
    exact engineStep_idle (s := s.withSchedule rest) hp

/-- Settles O9: the engine and the platform always answer a next state, so a stop is that of a host access. -/
theorem stepStopsOnlyAtRefusedBusAccesses : Obligations.StepStopsOnlyAtRefusedBusAccesses := by
  intro s
  have hengine : ∀ u : State, (∀ r, engineStep u ≠ .refused r) ∧ ∀ f, engineStep u ≠ .fault f := fun u => by
    obtain ⟨t, ht⟩ := engineStep_completes u
    simp [ht]
  rcases step_cases s with ⟨-, he⟩ | ⟨e, rest, hs, he⟩
  · rw [he]
    exact ⟨(hengine s).1, fun f hf => absurd hf ((hengine s).2 f)⟩
  · rw [he]
    cases e with
    | hostRead w o =>
      exact ⟨fun r => hostAccess_ne_refused, fun f hf => ⟨w, o, rest, .inl hs, hostAccess_fault.mp hf⟩⟩
    | hostWrite w o v =>
      exact ⟨fun r => hostAccess_ne_refused, fun f hf => ⟨w, o, rest, .inr ⟨v, hs⟩, hostAccess_fault.mp hf⟩⟩
    | engine => exact ⟨(hengine _).1, fun f hf => absurd hf ((hengine _).2 f)⟩
    | platformReset => exact ⟨nofun, nofun⟩
    | platformCancelIn level => exact ⟨nofun, nofun⟩

section Completion

variable {s : State} {i : Instr}

/-- The word of a command is the legal word of that command where its operands are legal and the variant admits
it. -/
theorem legalCommand_encode {v : Variant} (hwf : i.wellFormed = true) (hv : i.allowedUnder v = true) :
    legalCommand v (encode i) = some i :=
  legalCommand_eq_some.mpr ⟨decode_encode i, hwf, hv⟩

/-- A command that passes the checks of the accept step is ready once it is latched. -/
theorem State.ready_latchCommand (hwf : i.wellFormed = true) (hv : i.allowedUnder s.variant = true)
    (hlen : ¬ s.lengthCheckFails i) (c : Word32) : (s.latchCommand i c).ready i (s.latched c) :=
  ⟨rfl, hwf, hv, hlen⟩

/-- On an empty schedule the step completes a command that is ready. -/
theorem step_of_ready {p : Pending} (hr : s.ready i p) (hd : decode p.word = .ok i)
    (hs : s.schedule = []) : step s = .next (effectOf i s p).finish := by
  rw [step_of_schedule_nil hs, engineStep_of_decode hr.1 hd, exec_ready hr]

end Completion

/-- Settles O8: the command's word passes the accept step, and the engine's step, which is next on the empty schedule,
completes the command that was latched. -/
theorem everyAcceptedCommandCompletes : Obligations.EveryAcceptedCommandCompletes := by
  intro s i hidle hwf hv hlen hs
  have hfirst : step s = .next ((s.withSchedule []).latchCommand i (encode i)) := by
    rw [step_cmdWrite hs,
      State.acceptCommand_of_checks (s := s.withSchedule []) hidle (legalCommand_encode hwf hv) hlen]
  have hready := State.ready_latchCommand (s := s.withSchedule []) hwf hv hlen (encode i)
  have hsecond := step_of_ready hready (decode_encode i) rfl
  obtain ⟨hdone, hpend, herr, hcode, -, -, -, -, -, -, -, -, -, -, hsched, -⟩ :=
    effectOf_finish_frame i ((s.withSchedule []).latchCommand i (encode i)) ((s.withSchedule []).latched (encode i))
  exact ⟨_, _, hfirst, rfl, rfl, hsecond, State.busy_eq_false_iff.mpr hpend, hdone, herr, hcode, hsched⟩

/-! ### The platform's inputs (R127, R133) -/

/-- Settles O48: the step sets the level, and CANCEL_REQ where a SEARCH is pending. -/
theorem cancelInputReachesAPendingSearch : Obligations.CancelInputReachesAPendingSearch := by
  intro s level rest hs
  refine ⟨(s.withSchedule rest).setCancelIn level, step_of_schedule_cons hs, rfl, ?_⟩
  simp [State.searchPending_iff, opcodeOf]

/-- Settles O56: the step of the reset input is the hardware reset, whose definition names what is kept. -/
theorem hardwareResetAbandonsThePendingCommand : Obligations.HardwareResetAbandonsThePendingCommand :=
  fun _ _ hs => step_of_schedule_cons hs

end Sys2Proof.Machine
end

section
/-! SUPPORT. The invariant of the records (10_state.md R28, R35, R43; 60_exceptions.md R118, R127), operation by
operation and over every step: O58, O60. -/

namespace Sys2Proof.Machine

section Record

variable {s t : State} {i : Instr} {p : Pending} {c v : Word32}

/-! ### The operations that touch a record -/

/-- An error is recorded under a code of its own; a code that stands is kept (R118). -/
theorem State.RecordInv.raiseErr (h : s.RecordInv) {code : ErrCode} (hcode : code ≠ .none) :
    (s.raiseErr code).RecordInv where
  errorCode := by
    have hkept := h.errorCode
    cases herr : s.err <;> simp_all
  cancel := h.cancel
  foundNonce := h.foundNonce
  sentinel := h.sentinel
  oneOutcome := h.oneOutcome
  cleared := h.cleared

/-- With nothing pending there is no SEARCH to cancel, and no outcome that its acceptance cleared. -/
theorem State.RecordInv.withoutCommand (h : s.RecordInv) : State.RecordInv { s with pend := none } where
  errorCode := h.errorCode
  cancel := nofun
  foundNonce := h.foundNonce
  sentinel := h.sentinel
  oneOutcome := h.oneOutcome
  cleared := nofun

theorem State.RecordInv.dropCommand (h : s.RecordInv) {code : ErrCode} (hcode : code ≠ .none) :
    (s.dropCommand code).RecordInv :=
  h.withoutCommand.raiseErr hcode

/-- An acknowledgement clears ERR and ERRCODE together (R122). -/
theorem State.RecordInv.clearStatus (h : s.RecordInv) (v : Word32) : (s.clearStatus v).RecordInv where
  errorCode := by
    have hkept := h.errorCode
    cases hv : v.getLsbD 2 <;> simp_all
  cancel := h.cancel
  foundNonce := h.foundNonce
  sentinel := h.sentinel
  oneOutcome := h.oneOutcome
  cleared := h.cleared

/-- A command whose word is that of SEARCH or VERIFY clears the outcome at its acceptance. -/
theorem clearsOutcome_of_opcode (hop : opcodeOf (encode i) = 0x06#8 ∨ opcodeOf (encode i) = 0x07#8) :
    clearsOutcome i = true := by
  rw [opcodeOf_encode] at hop
  revert hop
  cases i <;> simp [Instr.opcode, clearsOutcome]

/-- An acceptance samples `cancel_in`, and clears the outcome where the command reports one (R44). -/
theorem State.RecordInv.latchCommand (h : s.RecordInv) (hd : decode c = .ok i) : (s.latchCommand i c).RecordInv where
  errorCode := h.errorCode
  cancel := fun _ hin => hin
  foundNonce := by
    have hkept := h.foundNonce
    cases hi : clearsOutcome i <;> simp_all
  sentinel := by
    have hkept := h.sentinel
    cases hi : clearsOutcome i <;> simp_all
  oneOutcome := by
    have hkept := h.oneOutcome
    cases hi : clearsOutcome i <;> simp_all
  cleared := by
    rintro q ⟨⟩ hop
    obtain rfl := decode_eq_ok.mp hd
    simp [clearsOutcome_of_opcode hop]

/-- A level of 1 reaches CANCEL_REQ while a SEARCH is pending (R127). -/
theorem State.RecordInv.setCancelIn (h : s.RecordInv) (level : Bool) : (s.setCancelIn level).RecordInv where
  errorCode := h.errorCode
  cancel := fun hp hin => by
    have hpend : s.searchPending = true := hp
    have hlevel : level = true := hin
    simp [hpend, hlevel]
  foundNonce := h.foundNonce
  sentinel := h.sentinel
  oneOutcome := h.oneOutcome
  cleared := h.cleared

theorem State.recordInv_hardwareReset (s : State) : s.hardwareReset.RecordInv where
  errorCode := by simp [State.reset]
  cancel := nofun
  foundNonce := nofun
  sentinel := nofun
  oneOutcome := nofun
  cleared := nofun

/-- Whatever an accept step does, it keeps the records. -/
theorem State.RecordInv.acceptCommand (h : s.RecordInv) (c : Word32) : (s.acceptCommand c).RecordInv := by
  rcases s.acceptCommand_cases c with ⟨-, e⟩ | ⟨-, -, e⟩ | ⟨-, i, -, -, e⟩ | ⟨-, i, hl, -, e⟩ <;> rw [e]
  · exact h.raiseErr nofun
  · exact h.raiseErr nofun
  · exact h.raiseErr nofun
  · exact h.latchCommand (legalCommand_eq_some.mp hl).1

/-- A cancel request is only added to by a write to CTRL (R27). -/
theorem State.RecordInv.hostWrite_ctrl (h : s.RecordInv) (v : Word32) : (s.hostWrite .ctrl v).RecordInv where
  errorCode := h.errorCode
  cancel := fun hp hin => Bool.or_eq_true_iff.mpr (.inl (h.cancel hp hin))
  foundNonce := h.foundNonce
  sentinel := h.sentinel
  oneOutcome := h.oneOutcome
  cleared := h.cleared

/-- Only CTRL, STATUS and CMD reach a record; a write to any other register keeps them all. -/
theorem State.RecordInv.hostWrite (h : s.RecordInv) (r : Reg) (v : Word32) : (s.hostWrite r v).RecordInv := by
  cases r with
  | ctrl => exact h.hostWrite_ctrl v
  | status => exact h.clearStatus v
  | cmd => exact h.acceptCommand v
  | _ => exact ⟨h.errorCode, h.cancel, h.foundNonce, h.sentinel, h.oneOutcome, h.cleared⟩

/-! ### The completion of a command -/

/-- The outcome was cleared when the SEARCH or VERIFY that is pending was accepted. -/
theorem State.RecordInv.cleared_of_decode (h : s.RecordInv) (hp : s.pend = some p) (hd : decode p.word = .ok i)
    (hi : isSearchOrVerify i) : s.matched = false ∧ s.result = .none := by
  refine h.cleared p hp ?_
  rw [decode_eq_ok.mp hd, opcodeOf_encode]
  rcases hi with ⟨k, f, rfl⟩ | ⟨f, rfl⟩
  · exact .inl rfl
  · exact .inr rfl

/-- A nonce that SEARCH found is below its latched bound, so it is not the sentinel (R35). -/
theorem SearchOutcome.CorrectFor.found_ne_sentinel {cand : Word32 → List Byte} {k : Nat} {n a : Word32}
    {d : List Byte}
    (h : (SearchOutcome.found n d a).CorrectFor cand k p.nonceStart (p.maxNonce.toNat - p.nonceStart.toNat)) :
    n ≠ 0xFFFFFFFF := by
  obtain ⟨hle, hlt, -⟩ := h
  rintro rfl
  have hmax : (0xFFFFFFFF : Word32).toNat = 2 ^ 32 - 1 := rfl
  omega

/-- The result registers of a SEARCH hold the sentinel exactly where no nonce was found (R111). -/
theorem State.RecordInv.writeOutcome (h : s.RecordInv) {o : SearchOutcome} {cand : Word32 → List Byte} {k : Nat}
    (hm : s.matched = false)
    (ho : o.CorrectFor cand k p.nonceStart (p.maxNonce.toNat - p.nonceStart.toNat)) :
    (s.writeOutcome o).drawElapsed.finish.RecordInv where
  errorCode := by simpa using h.errorCode
  cancel := nofun
  foundNonce := by
    cases o with
    | found n d a => exact fun _ => ho.found_ne_sentinel
    | notFound a => exact nofun
    | cancelled a => exact nofun
  sentinel := by
    cases o with
    | found n d a => exact nofun
    | notFound a => exact fun _ => rfl
    | cancelled a => exact fun _ => rfl
  oneOutcome := by simp [hm]
  cleared := nofun

/-- The completion of a command whose checks hold keeps the records: SEARCH and VERIFY write their outcome where the
acceptance had cleared it. -/
theorem State.RecordInv.effectOf_finish (h : s.RecordInv) (hr : s.ready i p) (hd : decode p.word = .ok i) :
    (effectOf i s p).finish.RecordInv := by
  have hcleared := h.cleared_of_decode hr.1 hd
  cases i with
  | search k f =>
    exact h.writeOutcome (hcleared (.inl ⟨k, f, rfl⟩)).1 (s.searchOutcome_correctFor k.toNat f p)
  | verify f =>
    have hnone : s.result = .none := (hcleared (.inr ⟨f, rfl⟩)).2
    exact ⟨h.errorCode, nofun, h.foundNonce, h.sentinel, fun _ => hnone, nofun⟩
  | _ => exact ⟨h.errorCode, nofun, h.foundNonce, h.sentinel, h.oneOutcome, nofun⟩

/-- A refused command records an error of its own (R117). -/
theorem State.refusal_ne_none {code : ErrCode} (h : s.refusal i = some code) : code ≠ .none := by
  rintro rfl
  rcases s.refusal_cases i with ⟨-, e⟩ | ⟨-, -, -, e⟩ | ⟨-, -, -, e⟩ <;> rw [e] at h <;> cases h

theorem State.RecordInv.engineStep (h : s.RecordInv) (ht : engineStep s = .next t) : t.RecordInv := by
  rcases engineStep_cases s with ⟨-, he⟩ | ⟨p, i, hp, hd, he⟩ | ⟨p, e, -, -, he⟩ <;> rw [he] at ht
  · cases ht
    exact h
  · obtain ⟨q, hq, ⟨hr, rfl⟩ | ⟨code, hcode, rfl⟩⟩ := exec_next_cases ht
    · cases hp.symm.trans hq
      exact h.effectOf_finish hr hd
    · exact h.dropCommand (State.refusal_ne_none hcode)
  · cases ht
    exact h.dropCommand nofun

theorem State.RecordInv.withSchedule (h : s.RecordInv) (rest : List Event) : (s.withSchedule rest).RecordInv :=
  ⟨h.errorCode, h.cancel, h.foundNonce, h.sentinel, h.oneOutcome, h.cleared⟩

theorem State.RecordInv.hostRead (h : s.RecordInv) (r : Reg) : (s.hostRead r).RecordInv :=
  ⟨h.errorCode, h.cancel, h.foundNonce, h.sentinel, h.oneOutcome, h.cleared⟩

end Record

/-- Settles O60: each agent's step keeps the records, by the rule of the operation that it is. -/
theorem stepKeepsTheRecordInvariant : Obligations.StepKeepsTheRecordInvariant := by
  intro s t hinv h
  rcases step_next_cases h with ⟨-, s0, rfl | ⟨rest, -, rfl⟩, he⟩ | ⟨o, rest, r, -, -, rfl⟩
    | ⟨o, v, rest, r, -, -, rfl⟩ | ⟨rest, -, rfl⟩ | ⟨level, rest, -, rfl⟩
  · exact hinv.engineStep he
  · exact (hinv.withSchedule rest).engineStep he
  · exact (hinv.withSchedule rest).hostRead r
  · exact (hinv.withSchedule rest).hostWrite r v
  · exact State.recordInv_hardwareReset _
  · exact (hinv.withSchedule rest).setCancelIn level

/-- Settles O58: the reset state is what a hardware reset leaves, which holds the empty stream. -/
theorem invariantsHoldAtReset : Obligations.InvariantsHoldAtReset :=
  ⟨⟨⟨[], State.reset.holdsStream_hardwareReset⟩, State.pendingLegal_of_idle rfl⟩, State.reset.recordInv_hardwareReset⟩

end Sys2Proof.Machine
end

section
/-! SUPPORT. The register window (10_state.md R25 to R42): the register of each offset, what it reads, and what a write
to it does: O11, O12, O13, O14, O15, O16. -/

namespace Sys2Proof.Machine

/-! ### The words of the registers (R27 to R29) -/

/-- Joined fields as numbers. -/
theorem toNat_append_eq_add {m n : Nat} (x : BitVec m) (y : BitVec n) :
    (x ++ y).toNat = x.toNat * 2 ^ n + y.toNat := by
  rw [BitVec.toNat_append, ← Nat.shiftLeft_add_eq_or_of_lt y.isLt, Nat.shiftLeft_eq]

/-- STATUS as a number, each field at its place (R28). -/
theorem statusWord_eq_ofNat (busy done err matched : Bool) (result : BitVec 2) (code : BitVec 4) :
    statusWord busy done err matched result code
      = BitVec.ofNat 32 (busy.toNat + 2 * done.toNat + 4 * err.toNat + 8 * matched.toNat + 16 * result.toNat
          + 256 * code.toNat) := by
  apply BitVec.eq_of_toNat_eq
  simp only [statusWord, toNat_append_eq_add, BitVec.toNat_ofBool, BitVec.toNat_ofNat]
  have := busy.toNat_lt; have := done.toNat_lt; have := err.toNat_lt; have := matched.toNat_lt
  omega

theorem SearchResult.toNat_code (r : SearchResult) : r.code.toNat = resultNumber r := by
  cases r <;> rfl

theorem ErrCode.toNat_code (c : ErrCode) : c.code.toNat = errorNumber c := by
  cases c <;> rfl

theorem State.toNat_busy (s : State) : s.busy.toNat = if s.pend = none then 0 else 1 := by
  cases hp : s.pend <;> simp [State.busy, hp]

theorem State.ctrlWord_eq_ofNat (s : State) :
    s.ctrlWord = BitVec.ofNat 32 (s.ieDone.toNat + 2 * s.ieErr.toNat) := by
  apply BitVec.eq_of_toNat_eq
  simp only [State.ctrlWord, toNat_append_eq_add, BitVec.toNat_ofBool, BitVec.toNat_ofNat]
  have := s.ieDone.toNat_lt; have := s.ieErr.toNat_lt
  omega

/-- CONFIG as a number; BUFLEN holds the length of a buffer shorter than a block (R29). -/
theorem State.configWord_eq_ofNat {s : State} (hbuf : s.buf.length < 64) :
    s.configWord = BitVec.ofNat 32 (s.variant.bit.toNat + 2 * (modeCode s.mode).toNat + 256 * s.buf.length) := by
  apply BitVec.eq_of_toNat_eq
  simp only [State.configWord, toNat_append_eq_add, BitVec.toNat_ofNat]
  omega

theorem lengthLow_eq_ofNat (len : BitVec 61) : len.extractLsb' 0 32 = BitVec.ofNat 32 len.toNat :=
  BitVec.eq_of_toNat_eq (by simp)

theorem lengthHigh_eq_ofNat (len : BitVec 61) :
    0#3 ++ len.extractLsb' 32 29 = BitVec.ofNat 32 (len.toNat / 2 ^ 32) := by
  apply BitVec.eq_of_toNat_eq
  rw [toNat_append_eq_add, BitVec.extractLsb'_toNat, Nat.shiftRight_eq_div_pow, BitVec.toNat_ofNat,
    BitVec.toNat_ofNat]
  omega

/-! ### The register of each offset (R25) -/

theorem regAt_digestOut (i : Fin 8) : regAt (0x40 + 4 * i.val) = some (.digestOut i) := by
  revert i; decide

theorem regAt_expect (i : Fin 8) : regAt (0x60 + 4 * i.val) = some (.expect i) := by
  revert i; decide

/-- Each exact read is that of a register which reads exactly at all times. -/
theorem exactReads_regValue (s : State) : ∀ x ∈ exactReads s,
    ∃ r, regAt x.1 = some r ∧ anyWhileBusy r = false ∧ s.regValue r = x.2 := by
  refine List.forall_mem_append.mpr ⟨?_, ?_⟩
  · simp only [List.forall_mem_cons]
    exact ⟨⟨.id, rfl, rfl, rfl⟩, ⟨.ctrl, rfl, rfl, s.ctrlWord_eq_ofNat⟩, ⟨.cmd, rfl, rfl, rfl⟩, ⟨.dataIn, rfl, rfl, rfl⟩,
      ⟨.nonceStart, rfl, rfl, rfl⟩, ⟨.maxNonce, rfl, rfl, rfl⟩, ⟨.nonceIn, rfl, rfl, rfl⟩, ⟨.reserved, rfl, rfl, rfl⟩,
      ⟨.reserved, rfl, rfl, rfl⟩, nofun⟩
  · rintro x hx
    obtain ⟨i, -, rfl⟩ := List.mem_map.mp hx
    exact ⟨.expect i, regAt_expect i, rfl, rfl⟩

/-- Each idle read is that of a register, other than STATUS, which is any value while BUSY. -/
theorem idleReads_regValue (s : State) : ∀ x ∈ idleReads s,
    ∃ r, regAt x.1 = some r ∧ anyWhileBusy r = true ∧ r ≠ .status ∧ (s.buf.length < 64 → s.regValue r = x.2) := by
  refine List.forall_mem_append.mpr ⟨?_, ?_⟩
  · simp only [List.forall_mem_cons]
    refine ⟨⟨.config, rfl, rfl, nofun, fun hbuf => ?_⟩, ⟨.resultNonce, rfl, rfl, nofun, fun _ => rfl⟩,
      ⟨.attempts, rfl, rfl, nofun, fun _ => rfl⟩, ⟨.elapsed, rfl, rfl, nofun, fun _ => rfl⟩,
      ⟨.msgLenLo, rfl, rfl, nofun, fun _ => lengthLow_eq_ofNat _⟩,
      ⟨.msgLenHi, rfl, rfl, nofun, fun _ => lengthHigh_eq_ofNat _⟩, nofun⟩
    refine (State.configWord_eq_ofNat hbuf).trans ?_
    cases s.variant <;> cases s.mode <;> rfl
  · rintro x hx
    obtain ⟨i, -, rfl⟩ := List.mem_map.mp hx
    exact ⟨.digestOut i, regAt_digestOut i, rfl, nofun, fun _ => rfl⟩

/-! ### Reads (R42, R46) -/

section Reads

variable {s : State} {o : Nat} {rest : List Event} {r : Reg}

/-- The step of a read that is exact, always or while idle, changes nothing but the value the host holds. -/
theorem step_hostRead_exact (hs : s.schedule = .hostRead .word o :: rest) (hr : regAt o = some r)
    (h : (s.busy && anyWhileBusy r) = false) :
    step s = .next { s with schedule := rest, readData := s.regValue r } := by
  have hbusy : (s.withSchedule rest).busy = s.busy := rfl
  have hvalue : (s.withSchedule rest).regValue r = s.regValue r := by cases r <;> rfl
  rw [step_hostRead hs hr, State.hostRead, State.readValue, hbusy, h, hvalue]
  rfl

/-- The step of a read of a register that is any value while BUSY takes a draw. -/
theorem step_hostRead_drawn (hs : s.schedule = .hostRead .word o :: rest) (hr : regAt o = some r)
    (hb : s.busy = true) (ha : anyWhileBusy r = true) :
    step s = .next { s with
      schedule := rest
      readData := if r = .status then s.statusDrawn s.draw else s.draw
      draws := s.draws + 1 } := by
  have hbusy : (s.withSchedule rest).busy = true := hb
  rw [step_hostRead hs hr, State.hostRead, State.readValue, hbusy, ha]
  rfl

end Reads

theorem State.statusExact_eq_ofNat (s : State) :
    s.statusExact = BitVec.ofNat 32 (exactStatus s + 8 * s.matched.toNat + 16 * resultNumber s.result) := by
  rw [State.statusExact, statusWord_eq_ofNat, State.toNat_busy, SearchResult.toNat_code, ErrCode.toNat_code, exactStatus]
  congr 1
  omega

/-- Settles O11: an idle read is the value of the register at the offset, each value as a number. -/
theorem idleReadsGiveTheRegisterValues : Obligations.IdleReadsGiveTheRegisterValues := by
  intro s o v rest hidle hbuf hs hmem
  obtain ⟨r, hr, hv⟩ : ∃ r, regAt o = some r ∧ s.regValue r = v := by
    rcases List.mem_cons.mp hmem with hst | hmem
    · cases hst
      exact ⟨.status, rfl, s.statusExact_eq_ofNat⟩
    · rcases List.mem_append.mp hmem with hmem | hmem
      · obtain ⟨r, hr, -, hv⟩ := exactReads_regValue s _ hmem
        exact ⟨r, hr, hv⟩
      · obtain ⟨r, hr, -, -, hv⟩ := idleReads_regValue s _ hmem
        exact ⟨r, hr, hv hbuf⟩
  rw [step_hostRead_exact hs hr (by rw [State.busy_eq_false_iff.mpr hidle, Bool.false_and]), hv]

/-! ### What of STATUS is exact while BUSY (R42) -/

/-- Without bits 3 and 5:4 STATUS is its word with MATCH and RESULT at 0: a check of its ten bits. -/
theorem statusWord_and_exactMask : ∀ (busy done err matched : Bool) (result : BitVec 2) (code : BitVec 4),
    statusWord busy done err matched result code &&& ~~~0x38#32 = statusWord busy done err false 0#2 code := by
  decide +kernel

theorem statusWord_matchBit (busy done err matched : Bool) (result : BitVec 2) (code : BitVec 4) :
    (statusWord busy done err matched result code).getLsbD 3 = matched := by
  unfold statusWord
  iterate 3 rw [BitVec.getLsbD_append, if_neg (by decide)]
  rw [BitVec.getLsbD_append, if_pos (by decide), BitVec.getLsbD_ofBool]
  simp

theorem statusWord_resultField (busy done err matched : Bool) (result : BitVec 2) (code : BitVec 4) :
    (statusWord busy done err matched result code).extractLsb' 4 2 = result := by
  unfold statusWord
  iterate 4 rw [BitVec.extractLsb'_append_eq_of_le (by decide)]
  exact BitVec.extractLsb'_append_eq_right

/-- The bits 3 and 5:4 of a word are those of its fields MATCH and RESULT. -/
theorem and_drawnMask_congr {w w' : Word32} (hm : w.getLsbD 3 = w'.getLsbD 3)
    (hr : w.extractLsb' 4 2 = w'.extractLsb' 4 2) : w &&& 0x38#32 = w' &&& 0x38#32 := by
  have h4 : w.getLsbD 4 = w'.getLsbD 4 := by simpa using congrArg (·.getLsbD 0) hr
  have h5 : w.getLsbD 5 = w'.getLsbD 5 := by simpa using congrArg (·.getLsbD 1) hr
  have hmask : ∀ i < 32, (0x38#32).getLsbD i = true → i = 3 ∨ i = 4 ∨ i = 5 := by decide
  refine BitVec.eq_of_getLsbD_eq fun i hi => ?_
  rw [BitVec.getLsbD_and, BitVec.getLsbD_and]
  cases hbit : (0x38#32).getLsbD i with
  | false => simp
  | true => rcases hmask i hi hbit with rfl | rfl | rfl <;> simp_all

/-- What of STATUS reads exactly at all times is exact in the word of every read (R42). -/
theorem State.status_and_exactMask (s : State) (matched : Bool) (result : BitVec 2) :
    statusWord s.busy s.done s.err matched result s.errCode.code &&& ~~~0x38#32 = BitVec.ofNat 32 (exactStatus s) := by
  rw [statusWord_and_exactMask, statusWord_eq_ofNat, State.toNat_busy, ErrCode.toNat_code, exactStatus]
  rfl

/-- What of STATUS is drawn while BUSY is that of the draw (R42). -/
theorem State.statusDrawn_and_drawnMask (s : State) (d : Word32) : s.statusDrawn d &&& 0x38#32 = d &&& 0x38#32 :=
  and_drawnMask_congr (statusWord_matchBit _ _ _ _ _ _) (statusWord_resultField _ _ _ _ _ _)

/-- Settles O12: the exact registers are never drawn; STATUS is drawn in MATCH and RESULT alone; every other register
is the draw. -/
theorem busyReadsAreExactOrDrawn : Obligations.BusyReadsAreExactOrDrawn := by
  intro s o rest hs
  have hdraw : s.draw = Config.freeWord s.engineIndex s.draws := rfl
  refine ⟨fun v hmem => ?exact, ?status, fun hpend hmem => ?drawn⟩
  case exact =>
    obtain ⟨r, hr, ha, hv⟩ := exactReads_regValue s _ hmem
    rw [step_hostRead_exact hs hr (by rw [ha, Bool.and_false])]
    exact hv ▸ rfl
  case status =>
    rintro rfl
    cases hb : s.busy with
    | false =>
      have hidle : s.pend = none := State.busy_eq_false_iff.mp hb
      exact ⟨_, step_hostRead_exact hs rfl (by rw [hb, Bool.false_and]), s.status_and_exactMask _ _,
        fun hpend => absurd hidle hpend⟩
    | true =>
      exact ⟨_, step_hostRead_drawn hs rfl hb rfl, s.status_and_exactMask _ _,
        fun _ => ⟨rfl, s.statusDrawn_and_drawnMask s.draw⟩⟩
  case drawn =>
    obtain ⟨v, hmem⟩ := hmem
    obtain ⟨r, hr, ha, hst, -⟩ := idleReads_regValue s _ hmem
    have hb : s.busy = true := State.busy_iff.mpr (Option.ne_none_iff_exists'.mp hpend)
    rw [step_hostRead_drawn hs hr hb ha, if_neg hst, hdraw]

/-! ### Writes (R27, R28, R31 to R34, R40, R41) -/

/-- The offsets of the registers that the host can only read, DIGEST_OUT apart, and of the reserved ones. -/
theorem readOnly_register : ∀ o ∈ [0x00, 0x0C, 0x24, 0x28, 0x2C, 0x30, 0x34, 0x38, 0x3C],
    ∃ r, regAt o = some r ∧ ∀ (s : State) (v : Word32), s.hostWrite r v = s := by
  simp only [List.forall_mem_cons]
  exact ⟨⟨.id, rfl, fun _ _ => rfl⟩, ⟨.config, rfl, fun _ _ => rfl⟩, ⟨.resultNonce, rfl, fun _ _ => rfl⟩,
    ⟨.attempts, rfl, fun _ _ => rfl⟩, ⟨.elapsed, rfl, fun _ _ => rfl⟩, ⟨.msgLenLo, rfl, fun _ _ => rfl⟩,
    ⟨.msgLenHi, rfl, fun _ _ => rfl⟩, ⟨.reserved, rfl, fun _ _ => rfl⟩, ⟨.reserved, rfl, fun _ _ => rfl⟩, nofun⟩

/-- Settles O13: each of the offsets has a register that a write leaves as it is. -/
theorem writesToReadOnlyOffsetsAreIgnored : Obligations.WritesToReadOnlyOffsetsAreIgnored := by
  intro s o v rest hs ho
  obtain ⟨r, hr, hkeep⟩ : ∃ r, regAt o = some r ∧ ∀ (u : State) (w : Word32), u.hostWrite r w = u := by
    rcases ho with ho | ⟨i, hi, rfl⟩
    · exact readOnly_register o ho
    · exact ⟨.digestOut ⟨i, hi⟩, regAt_digestOut ⟨i, hi⟩, fun _ _ => rfl⟩
  rw [step_hostWrite hs hr, hkeep]
  rfl

/-- Settles O14: each offset has an operand register, and a write to it sets that register alone. -/
theorem operandRegisterWritesTakeEffectAtOnce : Obligations.OperandRegisterWritesTakeEffectAtOnce := by
  intro s o v rest hs
  refine ⟨?_, ?_, ?_, ?_, fun i ho => ?_⟩
  · rintro rfl
    exact step_hostWrite (r := .dataIn) hs rfl
  · rintro rfl
    exact step_hostWrite (r := .nonceStart) hs rfl
  · rintro rfl
    exact step_hostWrite (r := .maxNonce) hs rfl
  · rintro rfl
    exact step_hostWrite (r := .nonceIn) hs rfl
  · subst ho
    refine ⟨_, step_hostWrite hs (regAt_expect i), rfl, ?_, fun j hj => ?_⟩
    · simp [State.hostWrite]
    · have hne : i.val ≠ j.val := fun h => hj (Fin.ext h.symm)
      simp [State.hostWrite, hne]

/-- Settles O15: the write sets the enables, and CANCEL_REQ by bit 2 where a SEARCH is pending. -/
theorem ctrlWriteSetsEnablesAndCancels : Obligations.CtrlWriteSetsEnablesAndCancels := by
  intro s v rest hs
  refine ⟨_, step_hostWrite (r := .ctrl) hs rfl, rfl, ?_⟩
  simp [State.hostWrite, State.searchPending_iff, opcodeOf]

/-- Settles O16: the acknowledgement, with its masks written as cases. -/
theorem statusWriteAcknowledges : Obligations.StatusWriteAcknowledges := by
  intro s v rest hs
  rw [step_hostWrite (r := .status) hs rfl, State.hostWrite, State.clearStatus]
  cases v.getLsbD 1 <;> cases v.getLsbD 2 <;> simp [State.withSchedule]

end Sys2Proof.Machine
end

section
/-! SUPPORT. VARIANT, MODE and the result registers (10_state.md R18, R35 to R37, R39): the steps that change them: O18,
O19. -/

namespace Sys2Proof.Machine

/-- The two states agree in VARIANT, MODE, RESULT_NONCE, ATTEMPTS, ELAPSED and DIGEST_OUT. -/
structure State.KeepsResults (s t : State) : Prop where
  variant : t.variant = s.variant
  mode : t.mode = s.mode
  resultNonce : t.resultNonce = s.resultNonce
  attempts : t.attempts = s.attempts
  elapsed : t.elapsed = s.elapsed
  digestOut : t.digestOut = s.digestOut

section Results

variable {s t : State} {rest : List Event}

theorem State.hostWrite_keepsResults (s : State) (r : Reg) (v : Word32) : s.KeepsResults (s.hostWrite r v) := by
  cases r with
  | cmd =>
    rcases s.acceptCommand_cases v with ⟨-, e⟩ | ⟨-, -, e⟩ | ⟨-, i, -, -, e⟩ | ⟨-, i, -, -, e⟩ <;>
      rw [State.hostWrite, e] <;> constructor <;> rfl
  | _ => constructor <;> rfl

/-- The engine's step keeps these registers where it is idle or drops a command, and completes a command otherwise. -/
theorem engineStep_results (hm : s.engineMoves) (h : engineStep (s.withSchedule rest) = .next t) :
    s.KeepsResults t
    ∨ ∃ i p, s.completes i ∧ t = (effectOf i (s.withSchedule rest) p).finish := by
  rcases engineStep_cases (s.withSchedule rest) with ⟨-, he⟩ | ⟨p, i, hp, hd, he⟩ | ⟨p, e, -, -, he⟩ <;> rw [he] at h
  · cases h
    exact .inl (by constructor <;> rfl)
  · obtain ⟨q, hq, ⟨hr, rfl⟩ | ⟨code, -, rfl⟩⟩ := exec_next_cases h
    · cases hp.symm.trans hq
      exact .inr ⟨i, p, ⟨hm, p, hd, hr⟩, rfl⟩
    · exact .inl (by constructor <;> rfl)
  · cases h
    exact .inl (by constructor <;> rfl)

/-- Only the completion of a command and a hardware reset reach these registers. -/
theorem step_results (h : step s = .next t) :
    s.KeepsResults t ∨ s.resets
    ∨ ∃ i p rest, s.completes i ∧ t = (effectOf i (s.withSchedule rest) p).finish := by
  rcases step_next_cases h with ⟨hm, s0, h0, he⟩ | ⟨o, rest, r, -, -, rfl⟩ | ⟨o, v, rest, r, -, -, rfl⟩
    | ⟨rest, hs, -⟩ | ⟨level, rest, -, rfl⟩
  · obtain ⟨rest, rfl⟩ : ∃ rest, s0 = s.withSchedule rest := by
      rcases h0 with rfl | ⟨rest, -, rfl⟩
      · exact ⟨s0.schedule, s0.withSchedule_self.symm⟩
      · exact ⟨rest, rfl⟩
    rcases engineStep_results hm he with hk | ⟨i, p, hc, ht⟩
    · exact .inl hk
    · exact .inr (.inr ⟨i, p, rest, hc, ht⟩)
  · exact .inl (by constructor <;> rfl)
  · obtain ⟨_⟩ := (s.withSchedule rest).hostWrite_keepsResults r v
    exact .inl (by constructor <;> assumption)
  · exact .inr (.inl (by simp [State.resets, hs]))
  · exact .inl (by constructor <;> rfl)

/-- VARIANT and MODE are written by INIT alone (R97). -/
theorem effectOf_selection_of_ne_init {i : Instr} (h : ∀ m v, i ≠ .init m v) (s : State) (p : Pending) :
    (effectOf i s p).variant = s.variant ∧ (effectOf i s p).mode = s.mode := by
  cases i with
  | init m v => exact absurd rfl (h m v)
  | _ => simp [effectOf]

/-- RESULT_NONCE, ATTEMPTS and ELAPSED are written by SEARCH alone (R35 to R37). -/
theorem effectOf_searchRegisters_of_ne_search {i : Instr} (h : ∀ k f, i ≠ .search k f) (s : State) (p : Pending) :
    (effectOf i s p).resultNonce = s.resultNonce ∧ (effectOf i s p).attempts = s.attempts
      ∧ (effectOf i s p).elapsed = s.elapsed := by
  cases i with
  | search k f => exact absurd rfl (h k f)
  | _ => simp [effectOf]

/-- DIGEST_OUT is written by DIGEST, SEARCH and VERIFY alone (R39). -/
theorem effectOf_digestOut {i : Instr} (h : ¬ (i = .digest ∨ isSearchOrVerify i)) (s : State) (p : Pending) :
    (effectOf i s p).digestOut = s.digestOut := by
  cases i with
  | digest => exact absurd (.inl rfl) h
  | search k f => exact absurd (.inr (.inl ⟨k, f, rfl⟩)) h
  | verify f => exact absurd (.inr (.inr ⟨f, rfl⟩)) h
  | _ => simp [effectOf]

end Results

/-- Settles O18: of the completions, which alone reach VARIANT and MODE besides a reset, INIT alone writes them. -/
theorem onlyInitAndResetChangeVariantAndMode : Obligations.OnlyInitAndResetChangeVariantAndMode := by
  intro s t h hne
  rcases step_results h with hk | hr | ⟨i, p, rest, hc, rfl⟩
  · exact absurd hne (by simp [hk.variant, hk.mode])
  · exact .inr hr
  · refine .inl (by_contra fun hinit => ?_)
    obtain ⟨hv, hm⟩ := effectOf_selection_of_ne_init (fun m v hi => hinit ⟨m, v, hi ▸ hc⟩) (s.withSchedule rest) p
    rcases hne with hne | hne
    · exact hne hv
    · exact hne hm

/-- Settles O19: of the completions, which alone reach the result registers besides a reset, those of the named commands
alone write them. -/
theorem resultRegistersWrittenByTheirCommandsAlone : Obligations.ResultRegistersWrittenByTheirCommandsAlone := by
  intro s t h
  rcases step_results h with hk | hr | ⟨i, p, rest, hc, rfl⟩
  · exact ⟨fun hne => absurd hne (by simp [hk.resultNonce, hk.attempts, hk.elapsed]),
      fun hne => absurd hk.digestOut hne⟩
  · exact ⟨fun _ => .inr hr, fun _ => .inr (.inr (.inr hr))⟩
  · refine ⟨fun hne => .inl (by_contra fun hsearch => ?_), fun hne => ?_⟩
    · obtain ⟨hn, ha, hel⟩ :=
        effectOf_searchRegisters_of_ne_search (fun k f hi => hsearch ⟨k, f, hi ▸ hc⟩) (s.withSchedule rest) p
      rcases hne with hne | hne | hne
      · exact hne hn
      · exact hne ha
      · exact hne hel
    · have hi : i = .digest ∨ isSearchOrVerify i :=
        by_contra fun hi => hne (effectOf_digestOut hi (s.withSchedule rest) p)
      rcases hi with rfl | ⟨k, f, rfl⟩ | ⟨f, rfl⟩
      · exact .inl hc
      · exact .inr (.inl ⟨k, f, hc⟩)
      · exact .inr (.inr (.inl ⟨f, hc⟩))

end Sys2Proof.Machine
end

section
/-! SUPPORT. Big-endian words in byte strings (00_scope.md R11), the words of a digest and the two views of a chaining
state (10_state.md R19, R39): O21, O22. -/

namespace Sys2Proof.Machine

@[simp] theorem length_toBe32 (w : Word32) : (toBe32 w).length = 4 := rfl

/-- A place inside the middle part of a byte string. -/
theorem byteAt_append {m : List Byte} {k : Nat} (a b : List Byte) (hk : k < m.length) :
    byteAt (a ++ m ++ b) (a.length + k) = byteAt m k := by
  unfold byteAt
  rw [List.append_assoc, List.getD_append_right _ _ _ _ (by omega), Nat.add_sub_cancel_left, List.getD_append _ _ _ _ hk]

/-- A word is its four bytes joined. -/
@[simp] theorem be32_toBe32 (w : Word32) : be32 (toBe32 w) 0 = w := by
  refine Eq.symm ((eq_append (m := 8 + 8 + 8) (n := 8)).mpr ?_)
  simp only [extractLsb'_eq_append]
  exact ⟨⟨⟨rfl, rfl⟩, rfl⟩, rfl⟩

theorem be32_append (w : Word32) (a b : List Byte) : be32 (a ++ toBe32 w ++ b) a.length = w := by
  have hbyte : ∀ k < 4, byteAt (a ++ toBe32 w ++ b) (a.length + k) = byteAt (toBe32 w) k :=
    fun k hk => byteAt_append a b hk
  have h0 : byteAt (a ++ toBe32 w ++ b) a.length = byteAt (toBe32 w) 0 := hbyte 0 (by decide)
  rw [be32, h0, hbyte 1 (by decide), hbyte 2 (by decide), hbyte 3 (by decide)]
  exact be32_toBe32 w

/-- A long word is its two halves joined. -/
theorem extractLsb'_append_halves (w : Word64) : w.extractLsb' 32 32 ++ w.extractLsb' 0 32 = w :=
  ((eq_append (m := 32) (n := 32)).mpr ⟨rfl, rfl⟩).symm

theorem be64_append (w : Word64) (a b : List Byte) : be64 (a ++ toBe64 w ++ b) a.length = w := by
  have hhigh := be32_append (w.extractLsb' 32 32) a (toBe32 (w.extractLsb' 0 32) ++ b)
  have hlow := be32_append (w.extractLsb' 0 32) (a ++ toBe32 (w.extractLsb' 32 32)) b
  rw [List.length_append, length_toBe32] at hlow
  simp only [List.append_assoc] at hhigh hlow
  rw [be64, toBe64, List.append_assoc, List.append_assoc, hhigh, hlow, extractLsb'_append_halves]

/-- Settles O21: the bytes of the word are read at their places, and joined they are the word. -/
theorem bigEndianReadAfterWrite : Obligations.BigEndianReadAfterWrite := ⟨be32_append, be64_append⟩

/-- The words of eight written words are these words. -/
theorem digestWords_toBe32 (a b c d e f g h : Word32) :
    digestWords (toBe32 a ++ toBe32 b ++ toBe32 c ++ toBe32 d ++ toBe32 e ++ toBe32 f ++ toBe32 g ++ toBe32 h)
      = #v[a, b, c, d, e, f, g, h] := by
  change #v[be32 (toBe32 a) 0, be32 (toBe32 b) 0, be32 (toBe32 c) 0, be32 (toBe32 d) 0, be32 (toBe32 e) 0,
    be32 (toBe32 f) 0, be32 (toBe32 g) 0, be32 (toBe32 h) 0] = _
  simp only [be32_toBe32]

/-- The words of a chaining state joined again are the state (R19). -/
theorem chainOfS_sOfChain (cv : Chain) : chainOfS (sOfChain cv) = cv := by
  refine Eq.symm ((eq_append (m := 64 + 64 + 64) (n := 64)).mpr ?_)
  simp only [extractLsb'_eq_append]
  exact ⟨⟨⟨rfl, rfl⟩, rfl⟩, rfl⟩

/-- Settles O22: the words are read back from their bytes, and either view determines the chaining state. -/
theorem digestWordsAreTheFinalizedWords : Obligations.DigestWordsAreTheFinalizedWords := by
  refine ⟨fun w => ⟨?_, hOfChain_chainOfH w⟩, fun w => ⟨?_, sOfChain_chainOfS w⟩,
    fun cv => ⟨(hOfChain_eq_iff.mp rfl).symm, chainOfS_sOfChain cv⟩⟩
  · exact digestWords_toBe32 w.a w.b w.c w.d w.e w.f w.g w.h
  · exact digestWords_toBe32 _ _ _ _ _ _ _ _

end Sys2Proof.Machine
end

section
/-! SUPPORT. The message schedule (40_standard_digest.md R78): O24. -/

namespace Sys2Proof.Machine

/-- The word that the recurrence of R78 gives from the words before it, the oldest first. -/
def nextScheduleWord (w : List Word32) (i : Nat) : Word32 :=
  w.getD (i - 16) 0 + smallSigma0 (w.getD (i - 15) 0) + w.getD (i - 7) 0 + smallSigma1 (w.getD (i - 2) 0)

theorem length_extendSchedule (n : Nat) (l : List Word32) : (extendSchedule n l).length = l.length + n := by
  induction n generalizing l with
  | zero => rfl
  | succ n ih => rw [extendSchedule, ih, List.length_cons]; omega

/-- Extending a schedule keeps the words that it has. -/
theorem reverse_prefix_extendSchedule (n : Nat) (l : List Word32) : l.reverse <+: (extendSchedule n l).reverse := by
  induction n generalizing l with
  | zero => exact List.prefix_refl _
  | succ n ih =>
    rw [extendSchedule]
    refine List.IsPrefix.trans ?_ (ih _)
    rw [List.reverse_cons]
    exact List.prefix_append _ _

/-- The words of a schedule before its extension, counted from the oldest. -/
theorem getD_reverse_extendSchedule {n j : Nat} {l : List Word32} (hj : j < l.length) :
    (extendSchedule n l).reverse.getD j 0 = l.getD (l.length - 1 - j) 0 := by
  obtain ⟨t, ht⟩ := reverse_prefix_extendSchedule n l
  rw [← ht, List.getD_append _ _ _ _ (by simpa using hj), List.getD_reverse j hj]

/-- The word that extends a schedule is the one that the recurrence gives from the words before it. -/
theorem extendSchedule_recurrence {n i : Nat} {l : List Word32} (h16 : 16 ≤ l.length) (hlo : l.length ≤ i)
    (hhi : i < l.length + n) :
    (extendSchedule n l).reverse.getD i 0 = nextScheduleWord (extendSchedule n l).reverse i := by
  induction n generalizing l with
  | zero => omega
  | succ n ih =>
    by_cases hi : i = l.length
    · subst hi
      have hold : ∀ k, 1 ≤ k → k ≤ l.length →
          (extendSchedule (n + 1) l).reverse.getD (l.length - k) 0 = l.getD (k - 1) 0 := fun k h1 hk => by
        rw [getD_reverse_extendSchedule (by omega)]
        congr 1
        omega
      rw [nextScheduleWord, hold 16 (by decide) h16, hold 15 (by decide) (by omega), hold 7 (by decide) (by omega),
        hold 2 (by decide) (by omega), extendSchedule, getD_reverse_extendSchedule (by simp)]
      simp
    · rw [extendSchedule]
      exact ih (by rw [List.length_cons]; omega) (by rw [List.length_cons]; omega) (by rw [List.length_cons]; omega)

/-- Settles O24: the 16 words read from the block stay in front, and each of the 48 after them is the recurrence's. -/
theorem scheduleWordsObeyTheRecurrence : Obligations.ScheduleWordsObeyTheRecurrence := by
  intro blk
  have hlen : (((List.range 16).map fun i => be32 blk (4 * i)).reverse).length = 16 := by simp
  refine ⟨?length, fun i hi => ?first, fun i hlo hhi => ?later⟩
  case length => rw [scheduleStd, List.length_reverse, length_extendSchedule, hlen]
  case first =>
    rw [scheduleStd, getD_reverse_extendSchedule (hlen ▸ hi), ← List.getD_reverse i (hlen ▸ hi), List.reverse_reverse]
    simp [hi]
  case later => exact extendSchedule_recurrence hlen.ge (hlen ▸ hlo) (by rw [hlen]; exact hhi)

end Sys2Proof.Machine
end

section
/-! SUPPORT. The commands of the stream (42_engine_commands.md R97 to R102): O32, O33, O34, O35, O36, O37, O38, and what
the length check and the checks of the operands refuse (R101, R114, R117): O39, O40. -/

namespace Sys2Proof.Machine

/-! ### The initial chaining states (R76, R85) -/

theorem initChain_standardDigest :
    initChain .standardDigest = 0x6a09e667bb67ae853c6ef372a54ff53a510e527f9b05688c1f83d9ab5be0cd19#256 := by
  decide

theorem initChain_fastMixDigest : initChain .fastMixDigest = fmIvChain := rfl

/-! ### The completion of each command -/

section Commands

variable {s : State} {p : Pending}

/-- INIT is admitted under every legal mode. -/
theorem State.ready_init {m : BitVec 2} (hp : s.pend = some p) (hm : m ≠ 3) (v : Variant) :
    s.ready (.init m v) p :=
  ⟨hp, by simpa [Instr.wellFormed] using hm, rfl, by simp [State.lengthCheckFails]⟩

theorem State.ready_reset (hp : s.pend = some p) : s.ready .reset p :=
  ⟨hp, rfl, rfl, by simp [State.lengthCheckFails]⟩

theorem State.ready_upd1 (hp : s.pend = some p) (hlen : s.len.toNat + 1 ≤ 2 ^ 61 - 1) (b : Byte) :
    s.ready (.upd1 b) p :=
  ⟨hp, rfl, rfl, by simpa [State.lengthCheckFails] using hlen⟩

theorem State.ready_updn {n : BitVec 3} (hp : s.pend = some p) (hn : 1 ≤ n.toNat ∧ n.toNat ≤ 4)
    (hlen : s.len.toNat + n.toNat ≤ 2 ^ 61 - 1) : s.ready (.updn n) p :=
  ⟨hp, by simpa [Instr.wellFormed] using hn, rfl, by simpa [State.lengthCheckFails] using hlen⟩

/-- A legal mode field names a mode, whose number it is (R65). -/
theorem exists_modeOfField {m : BitVec 2} (hm : m ≠ 3) : ∃ mode, modeOfField m = some mode ∧ modeCode mode = m := by
  revert m
  decide

end Commands

/-- Settles O32: INIT restarts the stream under the mode that its field names. -/
theorem initStartsAFreshStream : Obligations.InitStartsAFreshStream := by
  intro s p m v hp hm
  obtain ⟨mode, hfield, hcode⟩ := exists_modeOfField hm
  refine ⟨mode, hcode, ?_⟩
  rw [exec_ready (State.ready_init hp hm v), effectOf, hfield]
  cases v with
  | standardDigest => rw [← initChain_standardDigest]; rfl
  | fastMixDigest => rfl

/-- Settles O33: RESET restarts the stream of the state's variant. -/
theorem resetCommandRestartsTheStream : Obligations.ResetCommandRestartsTheStream := by
  intro s p hp
  rw [exec_ready (State.ready_reset hp), effectOf, State.restartStream]
  cases s.variant with
  | standardDigest => rw [initChain_standardDigest]; rfl
  | fastMixDigest => rw [initChain_fastMixDigest]; rfl

/-- Settles O34: absorbing one byte, where it fills the buffer and where it does not. -/
theorem upd1AbsorbsItsByte : Obligations.Upd1AbsorbsItsByte := by
  intro s p b hp hlen
  rw [exec_ready (State.ready_upd1 hp hlen b), effectOf, State.absorbBytes]
  refine ⟨fun hfull => ?_, fun hroom => ?_⟩
  · rw [absorb_singleton_of_full _ _ _ hfull]
    cases s.variant <;> rfl
  · rw [absorb_singleton_of_not_full _ _ _ hroom.ne]
    rfl

/-- Settles O35: UPDN absorbs the bytes that `updnBytes` takes of the latched word. -/
theorem updnAbsorbsTheFirstBytesOfDataIn : Obligations.UpdnAbsorbsTheFirstBytesOfDataIn := by
  intro s p n hp h1 h4 hlen
  refine ⟨_, rfl, ?_⟩
  rw [exec_ready (State.ready_updn hp ⟨h1, h4⟩ hlen), effectOf, State.absorbBytes, updnBytes_length h4]
  rfl

/-- Settles O36: the digest of the stream, finalized as the variant says. -/
theorem digestWritesTheStreamDigest : Obligations.DigestWritesTheStreamDigest := by
  intro s p hp
  refine ⟨s.streamDigest, ?_, exec_ready (State.ready_digest hp)⟩
  rw [State.streamDigest]
  cases s.variant <;> rfl

/-! ### What DIGEST, SEARCH and VERIFY leave (R102) -/

/-- The two states hold the same stream: variant, mode, chaining state, buffer and length (R18 to R21). -/
structure State.SameStream (s t : State) : Prop where
  variant : t.variant = s.variant
  mode : t.mode = s.mode
  cv : t.cv = s.cv
  buf : t.buf = s.buf
  len : t.len = s.len

section SameStream

variable {s t : State}

theorem State.SameStream.streamDigest (h : s.SameStream t) : t.streamDigest = s.streamDigest := by
  simp only [State.streamDigest, h.variant, h.mode, h.cv, h.buf, h.len]

theorem State.SameStream.candidate (h : s.SameStream t) : t.candidate = s.candidate := by
  funext f n
  simp only [State.candidate, h.variant, h.mode, h.cv, h.buf, h.len]

theorem effectOf_sameStream {i : Instr} (hi : i = .digest ∨ isSearchOrVerify i) (s : State) (p : Pending) :
    s.SameStream (effectOf i s p).finish := by
  rcases hi with rfl | ⟨k, f, rfl⟩ | ⟨f, rfl⟩ <;> constructor <;> simp [effectOf]

theorem exec_sameStream {i : Instr} (hi : i = .digest ∨ isSearchOrVerify i) (h : exec i s = .next t) :
    s.SameStream t := by
  obtain ⟨p, -, ⟨-, rfl⟩ | ⟨code, -, rfl⟩⟩ := exec_next_cases h
  · exact effectOf_sameStream hi s p
  · constructor <;> rfl

/-- A completed DIGEST wrote the words of the stream's digest. -/
theorem exec_digest_digestOut (h : exec .digest s = .next t) : t.digestOut = digestWords s.streamDigest := by
  obtain ⟨p, hp, -⟩ := exec_next_cases h
  rw [exec_ready (State.ready_digest hp)] at h
  cases h
  rfl

end SameStream

/-- Settles O37: the three commands keep the stream, and the digest is that of the stream. -/
theorem digestSearchVerifyLeaveTheStream : Obligations.DigestSearchVerifyLeaveTheStream := by
  intro s t u i p hi h
  have hsame : s.SameStream t := exec_sameStream hi h
  refine ⟨⟨hsame.variant, hsame.mode, hsame.cv, hsame.buf, hsame.len⟩, fun hu => ?_⟩
  obtain ⟨q, hq, -⟩ := exec_next_cases h
  obtain ⟨u', hu'⟩ := exec_completes (i := .digest) hq
  refine ⟨u', hu', ?_⟩
  rw [exec_digest_digestOut hu, exec_digest_digestOut hu']
  exact congrArg digestWords hsame.streamDigest

/-! ### MODE under StandardDigest (R18, R97) -/

section Mode

variable {s : State} (m : Mode)

theorem absorb_standardDigest_mode (m m' : Mode) : absorb .standardDigest m = absorb .standardDigest m' := rfl

theorem finalize_standardDigest_mode (m m' : Mode) : finalize .standardDigest m = finalize .standardDigest m' := rfl

theorem State.streamDigest_with_mode (hv : s.variant = .standardDigest) :
    State.streamDigest { s with mode := m } = s.streamDigest := by
  simp only [State.streamDigest, hv, finalize_standardDigest_mode m s.mode]

theorem State.candidate_with_mode (hv : s.variant = .standardDigest) :
    State.candidate { s with mode := m } = s.candidate := by
  funext f n
  simp only [State.candidate, hv, absorb_standardDigest_mode m s.mode, finalize_standardDigest_mode m s.mode]

theorem State.absorbBytes_with_mode (hv : s.variant = .standardDigest) (bytes : List Byte) :
    State.absorbBytes { s with mode := m } bytes = { s.absorbBytes bytes with mode := m } := by
  simp only [State.absorbBytes, hv, absorb_standardDigest_mode m s.mode]

/-- The effect of a command other than INIT neither reads nor writes MODE. -/
theorem effectOf_finish_with_mode {i : Instr} (hv : s.variant = .standardDigest) (hi : ∀ f v, i ≠ .init f v) (p : Pending) :
    (effectOf i { s with mode := m } p).finish = { (effectOf i s p).finish with mode := m } := by
  cases i with
  | init f v => exact absurd rfl (hi f v)
  | reset => rfl
  | upd1 b => exact congrArg State.finish (State.absorbBytes_with_mode m hv [b])
  | updn n => exact congrArg State.finish (State.absorbBytes_with_mode m hv _)
  | digest => simp only [effectOf, State.streamDigest_with_mode m hv]; rfl
  | search k f =>
    have ho : State.searchOutcome { s with mode := m } k.toNat f p = s.searchOutcome k.toNat f p := by
      simp only [State.searchOutcome, State.candidate_with_mode m hv]
      rfl
    simp only [effectOf, ho]
    cases s.searchOutcome k.toNat f p <;> rfl
  | verify f => simp only [effectOf, State.candidate_with_mode m hv]; rfl

end Mode

/-- Settles O38: neither the checks of a command nor, under StandardDigest, its effect depend on MODE. -/
theorem modeIsIgnoredUnderStandardDigest : Obligations.ModeIsIgnoredUnderStandardDigest := by
  intro s t i m hv hi h
  obtain ⟨p, hp, ⟨hr, rfl⟩ | ⟨code, hcode, rfl⟩⟩ := exec_next_cases h
  · rw [exec_ready (s := { s with mode := m }) hr, effectOf_finish_with_mode m hv hi]
  · rw [exec_eq_complete, State.complete_next]
    exact ⟨p, hp, .inr ⟨code, hcode, rfl⟩⟩

/-! ### The length check at the CMD write (R101, R114) -/

/-- Settles O39: the word passes the operand checks, so the length check alone decides, by the length that the command
could reach. -/
theorem lengthLimitRefusesAtTheBound : Obligations.LengthLimitRefusesAtTheBound := by
  intro s i grow rest hidle hv hs hgrow
  obtain ⟨hwf, hafter⟩ : i.wellFormed = true ∧ s.lengthAfter i = s.len.toNat + grow := by
    rcases hgrow with ⟨b, rfl, rfl⟩ | ⟨n, rfl, rfl, h1, h4⟩ | ⟨⟨k, rfl⟩ | rfl, rfl⟩ | ⟨⟨k, rfl⟩ | rfl, rfl⟩
    case inr.inl => exact ⟨by simp [Instr.wellFormed, h1, h4], rfl⟩
    all_goals exact ⟨rfl, rfl⟩
  have hlegal : legalCommand s.variant (encode i) = some i := legalCommand_encode hwf hv
  have hbound : s.lengthCheckFails i ↔ s.len.toNat + grow > 2 ^ 61 - 1 := by
    rw [State.lengthCheckFails_iff, hafter, Config.lmax]
  rw [step_cmdWrite hs]
  refine ⟨fun hgt => ?tooLong, fun hle => ?within⟩
  case tooLong =>
    exact congrArg _ (State.acceptCommand_of_length (s := s.withSchedule rest) hidle hlegal (hbound.mpr hgt))
  case within =>
    have hok : ¬ s.lengthCheckFails i := fun hfail => absurd (hbound.mp hfail) hle.not_gt
    exact ⟨_, congrArg _ (State.acceptCommand_of_checks (s := s.withSchedule rest) hidle hlegal hok), rfl, rfl⟩

/-! ### Forms that no run makes pending (log entries 8 and 9) -/

/-- Settles O40: the drop of the pending command under the code of the first check that fails. -/
theorem meaningsOfRefusedFormsRecordTheirError : Obligations.MeaningsOfRefusedFormsRecordTheirError := by
  refine ⟨fun s p i hp => ?_, fun s i => exec_idle⟩
  have hdrop : ∀ code, s.refusal i = some code → exec i s = .next (s.dropCommand code) := fun code hcode => by
    rw [exec_eq_complete, State.complete_next]
    exact ⟨p, hp, .inr ⟨code, hcode, rfl⟩⟩
  rcases s.refusal_cases i with ⟨hbad, he⟩ | ⟨hwf, hv, hlen, he⟩ | ⟨hwf, hv, hlen, -⟩
  · exact ⟨fun _ => hdrop _ he, fun hwf hv => by simp [hwf, hv] at hbad⟩
  · exact ⟨fun hbad => by simp [hwf, hv] at hbad, fun _ _ _ => hdrop _ he⟩
  · exact ⟨fun hbad => by simp [hwf, hv] at hbad, fun _ _ hfail => absurd hfail hlen⟩

end Sys2Proof.Machine
end

section
/-! SUPPORT. SEARCH and VERIFY (43_search_commands.md R106 to R115): O43, O44, O47, O49, O50, O51, O52. -/

namespace Sys2Proof.Machine

/-! ### The predicate on the hex text (R57, R107) -/

theorem length_hexText (d : List Byte) : (hexText d).length = 2 * d.length := by
  simp [hexText]

theorem hexChar_eq_zero_iff {x : BitVec 4} : hexChar x = '0' ↔ x = 0 := by
  revert x
  decide

theorem getElem_hexText (d : List Byte) {j : Nat} (h : j < (hexText d).length) :
    (hexText d)[j] = hexChar (nibble d j) := by
  simp [hexText]

/-- A character of the hex text is '0' exactly where its nibble is 0. -/
theorem replicate_prefix_hexText_iff {d : List Byte} {k : Nat} :
    List.replicate k '0' <+: hexText d ↔ k ≤ 2 * d.length ∧ ∀ j < k, nibble d j = 0 := by
  rw [List.prefix_iff_getElem]
  simp [getElem_hexText, length_hexText, eq_comm (a := '0'), hexChar_eq_zero_iff]

/-- Settles O43: the predicate and the hex text both say that the first k nibbles are 0. -/
theorem prefixPredicateIsOnTheHexText : Obligations.PrefixPredicateIsOnTheHexText := by
  intro d k hd
  rw [length_hexText, replicate_prefix_hexText_iff, prefixZero_iff, hd]
  exact ⟨rfl, Iff.rfl⟩

/-! ### The completion of SEARCH (R110, R111) -/

theorem writeOutcome_result_ne_none (s : State) (o : SearchOutcome) : (s.writeOutcome o).result ≠ .none := by
  cases o <;> nofun

/-- Settles O44: the completion writes an outcome to the result registers, ELAPSED from a draw, and nothing else. -/
theorem searchCompletesAndWritesItsResults : Obligations.SearchCompletesAndWritesItsResults := by
  intro s p k f hr
  refine ⟨_, exec_ready hr, ?_, ?_, State.foundOut_iff⟩
  · rw [effectOf]
    cases s.searchOutcome k.toNat f p <;> rfl
  · exact writeOutcome_result_ne_none s _

/-! ### Cancellation (R113) -/

section Cancellation

variable {s t : State} {p : Pending} {k : BitVec 7} {f : Suffix}

/-- The loop itself never stops early. -/
theorem searchLoop_ne_cancelled (cand : Word32 → List Byte) (k : Nat) (start n : Word32) (left : Nat) (a : Word32) :
    searchLoop cand k start left n ≠ .cancelled a := by
  induction left generalizing n with
  | zero => nofun
  | succ left ih =>
    unfold searchLoop
    split
    · nofun
    · exact ih (n + 1)

theorem State.searchOutcome_of_no_request (h : s.cancelReq = false) :
    s.searchOutcome k.toNat f p = uncancelledOutcome (s.candidate f) k.toNat p := by
  simp [State.searchOutcome, h]

/-- Without a cancel request the outcome of a completed SEARCH is right for its range and is not CANCELLED. -/
theorem exec_search_of_no_request (hr : s.ready (.search k f) p) (hc : s.cancelReq = false)
    (h : exec (.search k f) s = .next t) :
    ∃ o : SearchOutcome, (∀ a, o ≠ .cancelled a) ∧ t = (s.writeOutcome o).drawElapsed.finish
      ∧ o.CorrectFor (s.candidate f) k.toNat p.nonceStart (p.maxNonce.toNat - p.nonceStart.toNat) := by
  rw [exec_ready hr] at h
  cases h
  refine ⟨_, fun a => ?_, rfl, s.searchOutcome_correctFor k.toNat f p⟩
  rw [State.searchOutcome_of_no_request hc]
  exact searchLoop_ne_cancelled _ _ _ _ _ _

/-- With a cancel request the outcome is the uncancelled one, or it stops at one of that outcome's attempts. -/
theorem cancelChoice_cases (o : SearchOutcome) (d : Word32) :
    cancelChoice o d = o ∨ ∃ c : Word32, c.toNat < o.attempts.toNat ∧ cancelChoice o d = .cancelled c := by
  unfold cancelChoice
  split
  case isTrue hlt =>
    refine .inr ⟨_, ?_, rfl⟩
    rw [BitVec.toNat_ofNat, Nat.mod_eq_of_lt (hlt.trans o.attempts.isLt)]
    exact hlt
  case isFalse => exact .inl rfl

end Cancellation

/-- Settles O47: the run with the request takes the same outcome as the one without, or stops before it. -/
theorem cancellationOutcomes : Obligations.CancellationOutcomes := by
  intro s u p k f hr hc hu
  have ho : s.searchOutcome k.toNat f p = uncancelledOutcome (s.candidate f) k.toNat p :=
    State.searchOutcome_of_no_request hc
  have hreq : State.searchOutcome { s with cancelReq := true } k.toNat f p
      = cancelChoice (uncancelledOutcome (s.candidate f) k.toNat p) (s.drawAfter 1) := rfl
  rw [exec_ready hr, effectOf, ho] at hu
  cases hu
  rw [exec_ready (s := { s with cancelReq := true }) hr, effectOf, hreq]
  have hnc : ∀ a, uncancelledOutcome (s.candidate f) k.toNat p ≠ .cancelled a :=
    searchLoop_ne_cancelled _ _ _ _ _
  generalize uncancelledOutcome (s.candidate f) k.toNat p = o at hnc
  refine ⟨?_, _, rfl, ?_⟩
  · cases o with
    | cancelled a => exact absurd rfl (hnc a)
    | _ => nofun
  · rcases cancelChoice_cases o (s.drawAfter 1) with he | ⟨c, hlt, he⟩ <;> rw [he]
    · left
      cases o <;> rfl
    · refine .inr ⟨rfl, ?_, ?_⟩
      · rw [State.finish_attempts, State.drawElapsed_attempts, State.writeOutcome_attempts, State.finish_attempts,
          State.drawElapsed_attempts, State.writeOutcome_attempts]
        exact hlt
      · cases o <;> rfl

/-- Settles O49: the outcome is right for its range and not CANCELLED; the predicate holds of everything for K = 0 and
of nothing for K above 64, so the range decides. -/
theorem searchCornerCases : Obligations.SearchCornerCases := by
  intro s t p k f hr hc h
  have hall : k = 0 → ∀ d, prefixZero d k.toNat = true := by
    rintro rfl d
    exact prefixZero_iff.mpr ⟨Nat.zero_le _, nofun⟩
  have hstop : ∀ hi, k = 0 → NoHit (s.candidate f) k.toNat p.nonceStart.toNat hi → hi ≤ p.nonceStart.toNat := by
    intro hi hk hno
    by_contra hlt
    exact Bool.false_ne_true ((hno p.nonceStart le_rfl (by omega)).symm.trans (hall hk _))
  have hnone : 65 ≤ k.toNat → ∀ d, ¬ prefixZero d k.toNat = true := fun hk d hd =>
    absurd (prefixZero_iff.mp hd).1 (by omega)
  obtain ⟨o, hnc, rfl, ho⟩ := exec_search_of_no_request hr hc h
  cases o with
  | found n d a =>
    obtain ⟨hle, hlt, hhit, hno, -, ha⟩ := ho
    refine ⟨fun hempty => by omega, fun hk _ => ?first, fun hk => absurd hhit (hnone hk _)⟩
    case first =>
      have hstart : n.toNat = p.nonceStart.toNat := le_antisymm (hstop _ hk hno) hle
      refine ⟨rfl, BitVec.eq_of_toNat_eq hstart, BitVec.eq_of_toNat_eq (ha.trans ?_)⟩
      rw [hstart, Nat.sub_self]
      rfl
  | notFound a =>
    obtain ⟨hno, ha⟩ := ho
    refine ⟨fun hempty => ⟨rfl, BitVec.eq_of_toNat_eq (ha.trans ?empty)⟩, fun hk hrange => ?hit, fun _ _ => ⟨rfl, ha⟩⟩
    case empty => exact Nat.sub_eq_zero_of_le hempty
    case hit =>
      have hle := hstop _ hk hno
      omega
  | cancelled a => exact absurd rfl (hnc a)

/-! ### VERIFY (R115) -/

/-- The words of a digest by their places in it. -/
theorem getElem_digestWords (d : List Byte) (i : Fin 8) : (digestWords d)[i] = be32 d (4 * i.val) := by
  fin_cases i <;> rfl

theorem digestWords_eq_iff {d : List Byte} {v : Vector Word32 8} :
    digestWords d = v ↔ ∀ i : Fin 8, be32 d (4 * i.val) = v[i] := by
  simp only [← getElem_digestWords]
  refine ⟨fun h i => h ▸ rfl, fun h => Vector.ext fun j hj => h ⟨j, hj⟩⟩

/-- Settles O50: the candidate of the latched nonce, written by its definition; MATCH compares its words. -/
theorem verifyComparesTheCandidate : Obligations.VerifyComparesTheCandidate := by
  intro s p f hr
  refine ⟨s.candidate f p.nonceIn, _, rfl, exec_ready hr, rfl, ?_⟩
  rw [State.finish_matched, effectOf, decide_eq_true_iff, digestWords_eq_iff]

/-- What a SEARCH that found a nonce returned: the nonce's candidate. -/
theorem exec_search_found {s t : State} {p : Pending} {k : BitVec 7} {f : Suffix} (hr : s.ready (.search k f) p)
    (h : exec (.search k f) s = .next t) (hf : t.result = .found) :
    t.digestOut = digestWords (s.candidate f t.resultNonce) := by
  obtain ⟨o, rfl, ho⟩ := exec_search_next hr h
  cases o with
  | found n d a =>
    obtain ⟨-, -, -, -, rfl, -⟩ := ho
    rfl
  | notFound a => cases hf
  | cancelled a => cases hf

/-- Settles O51: the stream is as the SEARCH found it, so VERIFY derives the candidate that the SEARCH returned. -/
theorem verifyOfAFoundNonceMatches : Obligations.VerifyOfAFoundNonceMatches := by
  intro s t p q k f hr h hf hnonce hexpect
  have hsame : s.SameStream t := exec_sameStream (.inr (.inl ⟨k, f, rfl⟩)) h
  have hready : State.ready { t with pend := some q } (.verify f) q := by
    obtain ⟨-, -, hv, hlen⟩ := hr
    refine ⟨rfl, rfl, hsame.variant ▸ hv, ?_⟩
    rw [State.lengthCheckFails_iff] at hlen ⊢
    exact hsame.len ▸ hlen
  have hwords : digestWords (State.candidate { t with pend := some q } f q.nonceIn) = t.digestOut := by
    rw [exec_search_found hr h hf, hnonce, ← hsame.candidate]
    rfl
  refine ⟨_, exec_ready hready, ?_, hwords⟩
  rw [State.finish_matched, effectOf, decide_eq_true_iff, hexpect]
  exact hwords

/-! ### The candidate of a nonce (R106) -/

/-- Settles O52: absorbing the base and then the suffix is absorbing both. -/
theorem candidateIsTheDigestOfBaseAndSuffix : Obligations.CandidateIsTheDigestOfBaseAndSuffix := by
  rintro s base f n ⟨habsorb, hlen, -⟩
  rw [State.candidate, digestFrom, absorb_append, habsorb, hlen, List.length_append]

end Sys2Proof.Machine
end

section
/-! SUPPORT. The interrupt output (60_exceptions.md R123): O53. -/

namespace Sys2Proof.Machine

section Interrupt

variable {s t : State}

theorem State.irq_iff :
    s.irq = true ↔ (s.done = true ∧ s.ieDone = true) ∨ (s.err = true ∧ s.ieErr = true) := by
  simp [State.irq]

/-- A refused CMD write records an error and does nothing else (R118). -/
theorem step_of_refusesCommand (hr : s.refusesCommand) :
    ∃ code rest, step s = .next ((s.withSchedule rest).raiseErr code) := by
  obtain ⟨c, hw, hwhy⟩ := hr
  obtain ⟨rest, hs⟩ := List.head?_eq_some_iff.mp hw
  rw [step_cmdWrite hs]
  cases hp : s.pend with
  | some p =>
    exact ⟨_, rest, congrArg _ (State.acceptCommand_of_pending (s := s.withSchedule rest) (by simp [hp]))⟩
  | none =>
    rcases hwhy with hpend | hl | ⟨i, hl, hlen⟩
    · exact absurd hp hpend
    · exact ⟨_, rest, congrArg _ (State.acceptCommand_of_not_legal (s := s.withSchedule rest) hp hl)⟩
    · exact ⟨_, rest, congrArg _ (State.acceptCommand_of_length (s := s.withSchedule rest) hp hl hlen)⟩

end Interrupt

/-- Settles O53: a completion sets DONE, a refusal sets ERR, and a write to CTRL sets the enables; each leaves the other
half of its term of the output. -/
theorem interruptFollowsEnabledFlags : Obligations.InterruptFollowsEnabledFlags := by
  refine ⟨fun s => State.irq_iff, fun i s t p hr h hie => ?completion, fun s t hr h hie => ?refusal,
    fun s t v hw h0 h1 h => ?masking⟩
  case completion =>
    rw [exec_ready hr] at h
    cases h
    obtain ⟨hdone, -, -, -, -, hkeep, -⟩ := effectOf_finish_frame i s p
    exact State.irq_iff.mpr (.inl ⟨hdone, hkeep.trans hie⟩)
  case refusal =>
    obtain ⟨code, rest, hstep⟩ := step_of_refusesCommand hr
    rw [hstep] at h
    cases h
    exact State.irq_iff.mpr (.inr ⟨rfl, hie⟩)
  case masking =>
    obtain ⟨rest, hs⟩ := List.head?_eq_some_iff.mp hw
    rw [step_hostWrite (r := .ctrl) hs rfl] at h
    cases h
    refine ⟨?_, rfl, rfl⟩
    simp [State.irq, State.hostWrite, h0, h1, -BitVec.getLsbD_eq_getElem]

end Sys2Proof.Machine
end

section
/-! SUPPORT. Several instances (60_exceptions.md R129): O57. -/

namespace Sys2Proof.Machine

/-- A step of a system that answers a next state is the step of its engine of that number, or there is none. -/
theorem System.stepAt_next {sys sys' : System} {j : Nat} (h : sys.stepAt j = .next sys') :
    (sys.instances[j]? = none ∧ sys' = sys)
    ∨ ∃ s t, sys.instances[j]? = some s ∧ step s = .next t ∧ sys' = { instances := sys.instances.set j t } := by
  unfold System.stepAt at h
  cases hj : sys.instances[j]? with
  | none =>
    rw [hj] at h
    cases h
    exact .inl ⟨rfl, rfl⟩
  | some s =>
    rw [hj] at h
    cases hs : step s with
    | next t =>
      simp only [hs] at h
      cases h
      exact .inr ⟨s, t, rfl, hs, rfl⟩
    | fault f => simp [hs] at h
    | refused r => simp [hs] at h

/-- Settles O57: a step sets the one engine, which keeps its index; the engines after reset are numbered in order. -/
theorem instancesAreIndependent : Obligations.InstancesAreIndependent := by
  refine ⟨fun sys sys' j h => ?_, by simp [System.reset], fun n hn => by simp [System.reset, hn]⟩
  rcases System.stepAt_next h with ⟨hj, rfl⟩ | ⟨s, t, hj, hs, rfl⟩
  · refine ⟨rfl, fun i _ => rfl, fun s hs => ?_⟩
    cases hj.symm.trans hs
  · refine ⟨List.length_set, fun i hi => List.getElem?_set_ne hi.symm, fun u hu => ?_⟩
    cases hj.symm.trans hu
    have hlt : j < sys.instances.length := (List.getElem?_eq_some_iff.mp hj).1
    exact ⟨t, hs, List.getElem?_set_self hlt, step_engineIndex hs⟩

end Sys2Proof.Machine
end
